-- ==== Sys2Proof/Word.lean ====
section
/-! DEFINITION. The word types of the machine and the names its operand fields stand for
(spec/30_encoding.md, rules R133 to R137). -/

namespace Sys2Proof

/-- The unit of memory, and the width of a general register (00_scope.md R6). -/
abbrev Byte := BitVec 8

/-- The width of SP, PC, an address and a register pair (00_scope.md R6). -/
abbrev Word := BitVec 16

/-- The seven registers an r8 field names; its value 6 is the memory byte at HL and has forms of its
own (30_encoding.md R133). -/
inductive Reg8 where
  | b | c | d | e | h | l | a
  deriving DecidableEq, Repr

/-- rr: the pair of LD rr,n16, INC/DEC rr and ADD HL,rr (30_encoding.md R134). -/
inductive Pair where
  | bc | de | hl | sp
  deriving DecidableEq, Repr

/-- rr2: the pair of PUSH and POP (30_encoding.md R134). -/
inductive StackPair where
  | bc | de | hl | af
  deriving DecidableEq, Repr

/-- cc: the condition of a jump, call or return (30_encoding.md R135). -/
inductive Cond where
  | nz | z | nc | c
  deriving DecidableEq, Repr

/-- The operation of an 8-bit ALU form (30_encoding.md R136). -/
inductive AluOp where
  | add | adc | sub | sbc | and | xor | or | cp
  deriving DecidableEq, Repr

/-- The operation of CB group 0 (30_encoding.md R137). -/
inductive RotOp where
  | rlc | rrc | rl | rr | sla | sra | swap | srl
  deriving DecidableEq, Repr

end Sys2Proof
end

