-- ==== Sys2Proof/Config.lean ====
section
/-! DEFINITION. What an implementation fixes: the fixed parameters of 00_scope.md R6 and the types of
the launch parameters of R7. No value of this spec is free during a run (its draws are data of the
launch), so this file holds no opaque constant. -/

namespace Sys2Proof.Config

/-- `STOP_MODE`: the meaning given to STOP (00_scope.md R7, 92_eei_decisions.md D8). -/
inductive StopMode where
  | fault | nop2
  deriving DecidableEq, Repr

/-- The bytes of a ROM bank, 16 KiB (00_scope.md R6). -/
def romBankSize : Nat := 0x4000

/-- The bytes of an external RAM bank, 8 KiB (00_scope.md R6). -/
def ramBankSize : Nat := 0x2000

/-- What a ROM or RAM index beyond its buffer, and absent or disabled RAM, reads as
(20_memory.md R81, R82). -/
def openBus : Byte := 0xFF

/-- Columns of the framebuffer (00_scope.md R6). -/
def screenWidth : Nat := 160

/-- Rows of the framebuffer (00_scope.md R6). -/
def screenHeight : Nat := 144

/-- Cycles a dispatch takes (60_exceptions.md R363). -/
def dispatchCycles : Nat := 20

/-- Cycles a HALT tick takes (60_exceptions.md R353). -/
def haltTickCycles : Nat := 4

end Sys2Proof.Config
end

