-- ==== Sys2Proof/Syntax.lean ====
section
/-! DEFINITION. The instructions: one constructor for each row of spec/opcode_table.json (those with an
immediate first, each group in the table's order), with the immediates that row's rule names
(30_encoding.md R130, R138, R139, R140). Register operands, conditions, bit numbers and RST targets are
part of the row, hence of the name. -/

namespace Sys2Proof

/-- The rows of the opcode table. `IndHl` is the memory operand `[HL]`, `IndHli` is `[HL+]`, `IndHld`
is `[HL-]`; the CB rotates and shifts begin with `cb`. -/
inductive Instr where
  /-- `LD BC,n16`, opcode 01 (40_loads.md R178). -/
  | ldBcN16 (n : Word)
  /-- `LD B,n8`, opcode 06 (40_loads.md R164). -/
  | ldBN8 (n : Byte)
  /-- `LD [a16],SP`, opcode 08 (40_loads.md R179). -/
  | ldIndA16Sp (a : Word)
  /-- `LD C,n8`, opcode 0E (40_loads.md R164). -/
  | ldCN8 (n : Byte)
  /-- `LD DE,n16`, opcode 11 (40_loads.md R178). -/
  | ldDeN16 (n : Word)
  /-- `LD D,n8`, opcode 16 (40_loads.md R164). -/
  | ldDN8 (n : Byte)
  /-- `JR e8`, opcode 18 (44_control.md R304). -/
  | jrE8 (e : Byte)
  /-- `LD E,n8`, opcode 1E (40_loads.md R164). -/
  | ldEN8 (n : Byte)
  /-- `JR NZ,e8`, opcode 20 (44_control.md R305). -/
  | jrNzE8 (e : Byte)
  /-- `LD HL,n16`, opcode 21 (40_loads.md R178). -/
  | ldHlN16 (n : Word)
  /-- `LD H,n8`, opcode 26 (40_loads.md R164). -/
  | ldHN8 (n : Byte)
  /-- `JR Z,e8`, opcode 28 (44_control.md R305). -/
  | jrZE8 (e : Byte)
  /-- `LD L,n8`, opcode 2E (40_loads.md R164). -/
  | ldLN8 (n : Byte)
  /-- `JR NC,e8`, opcode 30 (44_control.md R305). -/
  | jrNcE8 (e : Byte)
  /-- `LD SP,n16`, opcode 31 (40_loads.md R178). -/
  | ldSpN16 (n : Word)
  /-- `LD [HL],n8`, opcode 36 (40_loads.md R165). -/
  | ldIndHlN8 (n : Byte)
  /-- `JR C,e8`, opcode 38 (44_control.md R305). -/
  | jrCE8 (e : Byte)
  /-- `LD A,n8`, opcode 3E (40_loads.md R164). -/
  | ldAN8 (n : Byte)
  /-- `JP NZ,a16`, opcode C2 (44_control.md R302). -/
  | jpNzA16 (a : Word)
  /-- `JP a16`, opcode C3 (44_control.md R301). -/
  | jpA16 (a : Word)
  /-- `CALL NZ,a16`, opcode C4 (44_control.md R307). -/
  | callNzA16 (a : Word)
  /-- `ADD A,n8`, opcode C6 (41_alu8.md R208). -/
  | addAN8 (n : Byte)
  /-- `JP Z,a16`, opcode CA (44_control.md R302). -/
  | jpZA16 (a : Word)
  /-- `PREFIX CB`, opcode CB (45_system.md R335). -/
  | prefixCb (cbop : Byte)
  /-- `CALL Z,a16`, opcode CC (44_control.md R307). -/
  | callZA16 (a : Word)
  /-- `CALL a16`, opcode CD (44_control.md R306). -/
  | callA16 (a : Word)
  /-- `ADC A,n8`, opcode CE (41_alu8.md R211). -/
  | adcAN8 (n : Byte)
  /-- `JP NC,a16`, opcode D2 (44_control.md R302). -/
  | jpNcA16 (a : Word)
  /-- `CALL NC,a16`, opcode D4 (44_control.md R307). -/
  | callNcA16 (a : Word)
  /-- `SUB A,n8`, opcode D6 (41_alu8.md R214). -/
  | subAN8 (n : Byte)
  /-- `JP C,a16`, opcode DA (44_control.md R302). -/
  | jpCA16 (a : Word)
  /-- `CALL C,a16`, opcode DC (44_control.md R307). -/
  | callCA16 (a : Word)
  /-- `SBC A,n8`, opcode DE (41_alu8.md R217). -/
  | sbcAN8 (n : Byte)
  /-- `LDH [a8],A`, opcode E0 (40_loads.md R175). -/
  | ldhIndA8A (n : Byte)
  /-- `AND A,n8`, opcode E6 (41_alu8.md R220). -/
  | andAN8 (n : Byte)
  /-- `ADD SP,e8`, opcode E8 (42_alu16.md R244). -/
  | addSpE8 (e : Byte)
  /-- `LD [a16],A`, opcode EA (40_loads.md R173). -/
  | ldIndA16A (a : Word)
  /-- `XOR A,n8`, opcode EE (41_alu8.md R223). -/
  | xorAN8 (n : Byte)
  /-- `LDH A,[a8]`, opcode F0 (40_loads.md R174). -/
  | ldhAIndA8 (n : Byte)
  /-- `OR A,n8`, opcode F6 (41_alu8.md R226). -/
  | orAN8 (n : Byte)
  /-- `LD HL,SP+e8`, opcode F8 (42_alu16.md R245). -/
  | ldHlSpE8 (e : Byte)
  /-- `LD A,[a16]`, opcode FA (40_loads.md R172). -/
  | ldAIndA16 (a : Word)
  /-- `CP A,n8`, opcode FE (41_alu8.md R229). -/
  | cpAN8 (n : Byte)
  /-- `NOP`, opcode 00 (45_system.md R330). -/
  | nop
  /-- `LD [BC],A`, opcode 02 (40_loads.md R167). -/
  | ldIndBcA
  /-- `INC BC`, opcode 03 (42_alu16.md R241). -/
  | incBc
  /-- `INC B`, opcode 04 (41_alu8.md R202). -/
  | incB
  /-- `DEC B`, opcode 05 (41_alu8.md R204). -/
  | decB
  /-- `RLCA`, opcode 07 (43_rotate_shift_bit.md R261). -/
  | rlca
  /-- `ADD HL,BC`, opcode 09 (42_alu16.md R243). -/
  | addHlBc
  /-- `LD A,[BC]`, opcode 0A (40_loads.md R166). -/
  | ldAIndBc
  /-- `DEC BC`, opcode 0B (42_alu16.md R242). -/
  | decBc
  /-- `INC C`, opcode 0C (41_alu8.md R202). -/
  | incC
  /-- `DEC C`, opcode 0D (41_alu8.md R204). -/
  | decC
  /-- `RRCA`, opcode 0F (43_rotate_shift_bit.md R262). -/
  | rrca
  /-- `STOP`, opcode 10 (45_system.md R332). -/
  | stop
  /-- `LD [DE],A`, opcode 12 (40_loads.md R167). -/
  | ldIndDeA
  /-- `INC DE`, opcode 13 (42_alu16.md R241). -/
  | incDe
  /-- `INC D`, opcode 14 (41_alu8.md R202). -/
  | incD
  /-- `DEC D`, opcode 15 (41_alu8.md R204). -/
  | decD
  /-- `RLA`, opcode 17 (43_rotate_shift_bit.md R263). -/
  | rla
  /-- `ADD HL,DE`, opcode 19 (42_alu16.md R243). -/
  | addHlDe
  /-- `LD A,[DE]`, opcode 1A (40_loads.md R166). -/
  | ldAIndDe
  /-- `DEC DE`, opcode 1B (42_alu16.md R242). -/
  | decDe
  /-- `INC E`, opcode 1C (41_alu8.md R202). -/
  | incE
  /-- `DEC E`, opcode 1D (41_alu8.md R204). -/
  | decE
  /-- `RRA`, opcode 1F (43_rotate_shift_bit.md R264). -/
  | rra
  /-- `LD [HL+],A`, opcode 22 (40_loads.md R170). -/
  | ldIndHliA
  /-- `INC HL`, opcode 23 (42_alu16.md R241). -/
  | incHl
  /-- `INC H`, opcode 24 (41_alu8.md R202). -/
  | incH
  /-- `DEC H`, opcode 25 (41_alu8.md R204). -/
  | decH
  /-- `DAA`, opcode 27 (41_alu8.md R230). -/
  | daa
  /-- `ADD HL,HL`, opcode 29 (42_alu16.md R243). -/
  | addHlHl
  /-- `LD A,[HL+]`, opcode 2A (40_loads.md R168). -/
  | ldAIndHli
  /-- `DEC HL`, opcode 2B (42_alu16.md R242). -/
  | decHl
  /-- `INC L`, opcode 2C (41_alu8.md R202). -/
  | incL
  /-- `DEC L`, opcode 2D (41_alu8.md R204). -/
  | decL
  /-- `CPL`, opcode 2F (41_alu8.md R231). -/
  | cpl
  /-- `LD [HL-],A`, opcode 32 (40_loads.md R171). -/
  | ldIndHldA
  /-- `INC SP`, opcode 33 (42_alu16.md R241). -/
  | incSp
  /-- `INC [HL]`, opcode 34 (41_alu8.md R203). -/
  | incIndHl
  /-- `DEC [HL]`, opcode 35 (41_alu8.md R205). -/
  | decIndHl
  /-- `SCF`, opcode 37 (41_alu8.md R232). -/
  | scf
  /-- `ADD HL,SP`, opcode 39 (42_alu16.md R243). -/
  | addHlSp
  /-- `LD A,[HL-]`, opcode 3A (40_loads.md R169). -/
  | ldAIndHld
  /-- `DEC SP`, opcode 3B (42_alu16.md R242). -/
  | decSp
  /-- `INC A`, opcode 3C (41_alu8.md R202). -/
  | incA
  /-- `DEC A`, opcode 3D (41_alu8.md R204). -/
  | decA
  /-- `CCF`, opcode 3F (41_alu8.md R233). -/
  | ccf
  /-- `LD B,B`, opcode 40 (40_loads.md R161). -/
  | ldBB
  /-- `LD B,C`, opcode 41 (40_loads.md R161). -/
  | ldBC
  /-- `LD B,D`, opcode 42 (40_loads.md R161). -/
  | ldBD
  /-- `LD B,E`, opcode 43 (40_loads.md R161). -/
  | ldBE
  /-- `LD B,H`, opcode 44 (40_loads.md R161). -/
  | ldBH
  /-- `LD B,L`, opcode 45 (40_loads.md R161). -/
  | ldBL
  /-- `LD B,[HL]`, opcode 46 (40_loads.md R162). -/
  | ldBIndHl
  /-- `LD B,A`, opcode 47 (40_loads.md R161). -/
  | ldBA
  /-- `LD C,B`, opcode 48 (40_loads.md R161). -/
  | ldCB
  /-- `LD C,C`, opcode 49 (40_loads.md R161). -/
  | ldCC
  /-- `LD C,D`, opcode 4A (40_loads.md R161). -/
  | ldCD
  /-- `LD C,E`, opcode 4B (40_loads.md R161). -/
  | ldCE
  /-- `LD C,H`, opcode 4C (40_loads.md R161). -/
  | ldCH
  /-- `LD C,L`, opcode 4D (40_loads.md R161). -/
  | ldCL
  /-- `LD C,[HL]`, opcode 4E (40_loads.md R162). -/
  | ldCIndHl
  /-- `LD C,A`, opcode 4F (40_loads.md R161). -/
  | ldCA
  /-- `LD D,B`, opcode 50 (40_loads.md R161). -/
  | ldDB
  /-- `LD D,C`, opcode 51 (40_loads.md R161). -/
  | ldDC
  /-- `LD D,D`, opcode 52 (40_loads.md R161). -/
  | ldDD
  /-- `LD D,E`, opcode 53 (40_loads.md R161). -/
  | ldDE
  /-- `LD D,H`, opcode 54 (40_loads.md R161). -/
  | ldDH
  /-- `LD D,L`, opcode 55 (40_loads.md R161). -/
  | ldDL
  /-- `LD D,[HL]`, opcode 56 (40_loads.md R162). -/
  | ldDIndHl
  /-- `LD D,A`, opcode 57 (40_loads.md R161). -/
  | ldDA
  /-- `LD E,B`, opcode 58 (40_loads.md R161). -/
  | ldEB
  /-- `LD E,C`, opcode 59 (40_loads.md R161). -/
  | ldEC
  /-- `LD E,D`, opcode 5A (40_loads.md R161). -/
  | ldED
  /-- `LD E,E`, opcode 5B (40_loads.md R161). -/
  | ldEE
  /-- `LD E,H`, opcode 5C (40_loads.md R161). -/
  | ldEH
  /-- `LD E,L`, opcode 5D (40_loads.md R161). -/
  | ldEL
  /-- `LD E,[HL]`, opcode 5E (40_loads.md R162). -/
  | ldEIndHl
  /-- `LD E,A`, opcode 5F (40_loads.md R161). -/
  | ldEA
  /-- `LD H,B`, opcode 60 (40_loads.md R161). -/
  | ldHB
  /-- `LD H,C`, opcode 61 (40_loads.md R161). -/
  | ldHC
  /-- `LD H,D`, opcode 62 (40_loads.md R161). -/
  | ldHD
  /-- `LD H,E`, opcode 63 (40_loads.md R161). -/
  | ldHE
  /-- `LD H,H`, opcode 64 (40_loads.md R161). -/
  | ldHH
  /-- `LD H,L`, opcode 65 (40_loads.md R161). -/
  | ldHL
  /-- `LD H,[HL]`, opcode 66 (40_loads.md R162). -/
  | ldHIndHl
  /-- `LD H,A`, opcode 67 (40_loads.md R161). -/
  | ldHA
  /-- `LD L,B`, opcode 68 (40_loads.md R161). -/
  | ldLB
  /-- `LD L,C`, opcode 69 (40_loads.md R161). -/
  | ldLC
  /-- `LD L,D`, opcode 6A (40_loads.md R161). -/
  | ldLD
  /-- `LD L,E`, opcode 6B (40_loads.md R161). -/
  | ldLE
  /-- `LD L,H`, opcode 6C (40_loads.md R161). -/
  | ldLH
  /-- `LD L,L`, opcode 6D (40_loads.md R161). -/
  | ldLL
  /-- `LD L,[HL]`, opcode 6E (40_loads.md R162). -/
  | ldLIndHl
  /-- `LD L,A`, opcode 6F (40_loads.md R161). -/
  | ldLA
  /-- `LD [HL],B`, opcode 70 (40_loads.md R163). -/
  | ldIndHlB
  /-- `LD [HL],C`, opcode 71 (40_loads.md R163). -/
  | ldIndHlC
  /-- `LD [HL],D`, opcode 72 (40_loads.md R163). -/
  | ldIndHlD
  /-- `LD [HL],E`, opcode 73 (40_loads.md R163). -/
  | ldIndHlE
  /-- `LD [HL],H`, opcode 74 (40_loads.md R163). -/
  | ldIndHlH
  /-- `LD [HL],L`, opcode 75 (40_loads.md R163). -/
  | ldIndHlL
  /-- `HALT`, opcode 76 (45_system.md R331). -/
  | halt
  /-- `LD [HL],A`, opcode 77 (40_loads.md R163). -/
  | ldIndHlA
  /-- `LD A,B`, opcode 78 (40_loads.md R161). -/
  | ldAB
  /-- `LD A,C`, opcode 79 (40_loads.md R161). -/
  | ldAC
  /-- `LD A,D`, opcode 7A (40_loads.md R161). -/
  | ldAD
  /-- `LD A,E`, opcode 7B (40_loads.md R161). -/
  | ldAE
  /-- `LD A,H`, opcode 7C (40_loads.md R161). -/
  | ldAH
  /-- `LD A,L`, opcode 7D (40_loads.md R161). -/
  | ldAL
  /-- `LD A,[HL]`, opcode 7E (40_loads.md R162). -/
  | ldAIndHl
  /-- `LD A,A`, opcode 7F (40_loads.md R161). -/
  | ldAA
  /-- `ADD A,B`, opcode 80 (41_alu8.md R206). -/
  | addAB
  /-- `ADD A,C`, opcode 81 (41_alu8.md R206). -/
  | addAC
  /-- `ADD A,D`, opcode 82 (41_alu8.md R206). -/
  | addAD
  /-- `ADD A,E`, opcode 83 (41_alu8.md R206). -/
  | addAE
  /-- `ADD A,H`, opcode 84 (41_alu8.md R206). -/
  | addAH
  /-- `ADD A,L`, opcode 85 (41_alu8.md R206). -/
  | addAL
  /-- `ADD A,[HL]`, opcode 86 (41_alu8.md R207). -/
  | addAIndHl
  /-- `ADD A,A`, opcode 87 (41_alu8.md R206). -/
  | addAA
  /-- `ADC A,B`, opcode 88 (41_alu8.md R209). -/
  | adcAB
  /-- `ADC A,C`, opcode 89 (41_alu8.md R209). -/
  | adcAC
  /-- `ADC A,D`, opcode 8A (41_alu8.md R209). -/
  | adcAD
  /-- `ADC A,E`, opcode 8B (41_alu8.md R209). -/
  | adcAE
  /-- `ADC A,H`, opcode 8C (41_alu8.md R209). -/
  | adcAH
  /-- `ADC A,L`, opcode 8D (41_alu8.md R209). -/
  | adcAL
  /-- `ADC A,[HL]`, opcode 8E (41_alu8.md R210). -/
  | adcAIndHl
  /-- `ADC A,A`, opcode 8F (41_alu8.md R209). -/
  | adcAA
  /-- `SUB A,B`, opcode 90 (41_alu8.md R212). -/
  | subAB
  /-- `SUB A,C`, opcode 91 (41_alu8.md R212). -/
  | subAC
  /-- `SUB A,D`, opcode 92 (41_alu8.md R212). -/
  | subAD
  /-- `SUB A,E`, opcode 93 (41_alu8.md R212). -/
  | subAE
  /-- `SUB A,H`, opcode 94 (41_alu8.md R212). -/
  | subAH
  /-- `SUB A,L`, opcode 95 (41_alu8.md R212). -/
  | subAL
  /-- `SUB A,[HL]`, opcode 96 (41_alu8.md R213). -/
  | subAIndHl
  /-- `SUB A,A`, opcode 97 (41_alu8.md R212). -/
  | subAA
  /-- `SBC A,B`, opcode 98 (41_alu8.md R215). -/
  | sbcAB
  /-- `SBC A,C`, opcode 99 (41_alu8.md R215). -/
  | sbcAC
  /-- `SBC A,D`, opcode 9A (41_alu8.md R215). -/
  | sbcAD
  /-- `SBC A,E`, opcode 9B (41_alu8.md R215). -/
  | sbcAE
  /-- `SBC A,H`, opcode 9C (41_alu8.md R215). -/
  | sbcAH
  /-- `SBC A,L`, opcode 9D (41_alu8.md R215). -/
  | sbcAL
  /-- `SBC A,[HL]`, opcode 9E (41_alu8.md R216). -/
  | sbcAIndHl
  /-- `SBC A,A`, opcode 9F (41_alu8.md R215). -/
  | sbcAA
  /-- `AND A,B`, opcode A0 (41_alu8.md R218). -/
  | andAB
  /-- `AND A,C`, opcode A1 (41_alu8.md R218). -/
  | andAC
  /-- `AND A,D`, opcode A2 (41_alu8.md R218). -/
  | andAD
  /-- `AND A,E`, opcode A3 (41_alu8.md R218). -/
  | andAE
  /-- `AND A,H`, opcode A4 (41_alu8.md R218). -/
  | andAH
  /-- `AND A,L`, opcode A5 (41_alu8.md R218). -/
  | andAL
  /-- `AND A,[HL]`, opcode A6 (41_alu8.md R219). -/
  | andAIndHl
  /-- `AND A,A`, opcode A7 (41_alu8.md R218). -/
  | andAA
  /-- `XOR A,B`, opcode A8 (41_alu8.md R221). -/
  | xorAB
  /-- `XOR A,C`, opcode A9 (41_alu8.md R221). -/
  | xorAC
  /-- `XOR A,D`, opcode AA (41_alu8.md R221). -/
  | xorAD
  /-- `XOR A,E`, opcode AB (41_alu8.md R221). -/
  | xorAE
  /-- `XOR A,H`, opcode AC (41_alu8.md R221). -/
  | xorAH
  /-- `XOR A,L`, opcode AD (41_alu8.md R221). -/
  | xorAL
  /-- `XOR A,[HL]`, opcode AE (41_alu8.md R222). -/
  | xorAIndHl
  /-- `XOR A,A`, opcode AF (41_alu8.md R221). -/
  | xorAA
  /-- `OR A,B`, opcode B0 (41_alu8.md R224). -/
  | orAB
  /-- `OR A,C`, opcode B1 (41_alu8.md R224). -/
  | orAC
  /-- `OR A,D`, opcode B2 (41_alu8.md R224). -/
  | orAD
  /-- `OR A,E`, opcode B3 (41_alu8.md R224). -/
  | orAE
  /-- `OR A,H`, opcode B4 (41_alu8.md R224). -/
  | orAH
  /-- `OR A,L`, opcode B5 (41_alu8.md R224). -/
  | orAL
  /-- `OR A,[HL]`, opcode B6 (41_alu8.md R225). -/
  | orAIndHl
  /-- `OR A,A`, opcode B7 (41_alu8.md R224). -/
  | orAA
  /-- `CP A,B`, opcode B8 (41_alu8.md R227). -/
  | cpAB
  /-- `CP A,C`, opcode B9 (41_alu8.md R227). -/
  | cpAC
  /-- `CP A,D`, opcode BA (41_alu8.md R227). -/
  | cpAD
  /-- `CP A,E`, opcode BB (41_alu8.md R227). -/
  | cpAE
  /-- `CP A,H`, opcode BC (41_alu8.md R227). -/
  | cpAH
  /-- `CP A,L`, opcode BD (41_alu8.md R227). -/
  | cpAL
  /-- `CP A,[HL]`, opcode BE (41_alu8.md R228). -/
  | cpAIndHl
  /-- `CP A,A`, opcode BF (41_alu8.md R227). -/
  | cpAA
  /-- `RET NZ`, opcode C0 (44_control.md R309). -/
  | retNz
  /-- `POP BC`, opcode C1 (40_loads.md R183). -/
  | popBc
  /-- `PUSH BC`, opcode C5 (40_loads.md R182). -/
  | pushBc
  /-- `RST 0x00`, opcode C7 (44_control.md R311). -/
  | rst00
  /-- `RET Z`, opcode C8 (44_control.md R309). -/
  | retZ
  /-- `RET`, opcode C9 (44_control.md R308). -/
  | ret
  /-- `RST 0x08`, opcode CF (44_control.md R311). -/
  | rst08
  /-- `RET NC`, opcode D0 (44_control.md R309). -/
  | retNc
  /-- `POP DE`, opcode D1 (40_loads.md R183). -/
  | popDe
  /-- `ILLEGAL_D3`, opcode D3 (45_system.md R336). -/
  | illegalD3
  /-- `PUSH DE`, opcode D5 (40_loads.md R182). -/
  | pushDe
  /-- `RST 0x10`, opcode D7 (44_control.md R311). -/
  | rst10
  /-- `RET C`, opcode D8 (44_control.md R309). -/
  | retC
  /-- `RETI`, opcode D9 (44_control.md R310). -/
  | reti
  /-- `ILLEGAL_DB`, opcode DB (45_system.md R336). -/
  | illegalDB
  /-- `ILLEGAL_DD`, opcode DD (45_system.md R336). -/
  | illegalDD
  /-- `RST 0x18`, opcode DF (44_control.md R311). -/
  | rst18
  /-- `POP HL`, opcode E1 (40_loads.md R183). -/
  | popHl
  /-- `LDH [C],A`, opcode E2 (40_loads.md R177). -/
  | ldhIndCA
  /-- `ILLEGAL_E3`, opcode E3 (45_system.md R336). -/
  | illegalE3
  /-- `ILLEGAL_E4`, opcode E4 (45_system.md R336). -/
  | illegalE4
  /-- `PUSH HL`, opcode E5 (40_loads.md R182). -/
  | pushHl
  /-- `RST 0x20`, opcode E7 (44_control.md R311). -/
  | rst20
  /-- `JP HL`, opcode E9 (44_control.md R303). -/
  | jpHl
  /-- `ILLEGAL_EB`, opcode EB (45_system.md R336). -/
  | illegalEB
  /-- `ILLEGAL_EC`, opcode EC (45_system.md R336). -/
  | illegalEC
  /-- `ILLEGAL_ED`, opcode ED (45_system.md R336). -/
  | illegalED
  /-- `RST 0x28`, opcode EF (44_control.md R311). -/
  | rst28
  /-- `POP AF`, opcode F1 (40_loads.md R185). -/
  | popAf
  /-- `LDH A,[C]`, opcode F2 (40_loads.md R176). -/
  | ldhAIndC
  /-- `DI`, opcode F3 (45_system.md R333). -/
  | di
  /-- `ILLEGAL_F4`, opcode F4 (45_system.md R336). -/
  | illegalF4
  /-- `PUSH AF`, opcode F5 (40_loads.md R184). -/
  | pushAf
  /-- `RST 0x30`, opcode F7 (44_control.md R311). -/
  | rst30
  /-- `LD SP,HL`, opcode F9 (40_loads.md R180). -/
  | ldSpHl
  /-- `EI`, opcode FB (45_system.md R334). -/
  | ei
  /-- `ILLEGAL_FC`, opcode FC (45_system.md R336). -/
  | illegalFC
  /-- `ILLEGAL_FD`, opcode FD (45_system.md R336). -/
  | illegalFD
  /-- `RST 0x38`, opcode FF (44_control.md R311). -/
  | rst38
  /-- `RLC B`, opcode CB00 (43_rotate_shift_bit.md R266). -/
  | cbRlcB
  /-- `RLC C`, opcode CB01 (43_rotate_shift_bit.md R266). -/
  | cbRlcC
  /-- `RLC D`, opcode CB02 (43_rotate_shift_bit.md R266). -/
  | cbRlcD
  /-- `RLC E`, opcode CB03 (43_rotate_shift_bit.md R266). -/
  | cbRlcE
  /-- `RLC H`, opcode CB04 (43_rotate_shift_bit.md R266). -/
  | cbRlcH
  /-- `RLC L`, opcode CB05 (43_rotate_shift_bit.md R266). -/
  | cbRlcL
  /-- `RLC [HL]`, opcode CB06 (43_rotate_shift_bit.md R267). -/
  | cbRlcIndHl
  /-- `RLC A`, opcode CB07 (43_rotate_shift_bit.md R266). -/
  | cbRlcA
  /-- `RRC B`, opcode CB08 (43_rotate_shift_bit.md R268). -/
  | cbRrcB
  /-- `RRC C`, opcode CB09 (43_rotate_shift_bit.md R268). -/
  | cbRrcC
  /-- `RRC D`, opcode CB0A (43_rotate_shift_bit.md R268). -/
  | cbRrcD
  /-- `RRC E`, opcode CB0B (43_rotate_shift_bit.md R268). -/
  | cbRrcE
  /-- `RRC H`, opcode CB0C (43_rotate_shift_bit.md R268). -/
  | cbRrcH
  /-- `RRC L`, opcode CB0D (43_rotate_shift_bit.md R268). -/
  | cbRrcL
  /-- `RRC [HL]`, opcode CB0E (43_rotate_shift_bit.md R269). -/
  | cbRrcIndHl
  /-- `RRC A`, opcode CB0F (43_rotate_shift_bit.md R268). -/
  | cbRrcA
  /-- `RL B`, opcode CB10 (43_rotate_shift_bit.md R270). -/
  | cbRlB
  /-- `RL C`, opcode CB11 (43_rotate_shift_bit.md R270). -/
  | cbRlC
  /-- `RL D`, opcode CB12 (43_rotate_shift_bit.md R270). -/
  | cbRlD
  /-- `RL E`, opcode CB13 (43_rotate_shift_bit.md R270). -/
  | cbRlE
  /-- `RL H`, opcode CB14 (43_rotate_shift_bit.md R270). -/
  | cbRlH
  /-- `RL L`, opcode CB15 (43_rotate_shift_bit.md R270). -/
  | cbRlL
  /-- `RL [HL]`, opcode CB16 (43_rotate_shift_bit.md R271). -/
  | cbRlIndHl
  /-- `RL A`, opcode CB17 (43_rotate_shift_bit.md R270). -/
  | cbRlA
  /-- `RR B`, opcode CB18 (43_rotate_shift_bit.md R272). -/
  | cbRrB
  /-- `RR C`, opcode CB19 (43_rotate_shift_bit.md R272). -/
  | cbRrC
  /-- `RR D`, opcode CB1A (43_rotate_shift_bit.md R272). -/
  | cbRrD
  /-- `RR E`, opcode CB1B (43_rotate_shift_bit.md R272). -/
  | cbRrE
  /-- `RR H`, opcode CB1C (43_rotate_shift_bit.md R272). -/
  | cbRrH
  /-- `RR L`, opcode CB1D (43_rotate_shift_bit.md R272). -/
  | cbRrL
  /-- `RR [HL]`, opcode CB1E (43_rotate_shift_bit.md R273). -/
  | cbRrIndHl
  /-- `RR A`, opcode CB1F (43_rotate_shift_bit.md R272). -/
  | cbRrA
  /-- `SLA B`, opcode CB20 (43_rotate_shift_bit.md R274). -/
  | cbSlaB
  /-- `SLA C`, opcode CB21 (43_rotate_shift_bit.md R274). -/
  | cbSlaC
  /-- `SLA D`, opcode CB22 (43_rotate_shift_bit.md R274). -/
  | cbSlaD
  /-- `SLA E`, opcode CB23 (43_rotate_shift_bit.md R274). -/
  | cbSlaE
  /-- `SLA H`, opcode CB24 (43_rotate_shift_bit.md R274). -/
  | cbSlaH
  /-- `SLA L`, opcode CB25 (43_rotate_shift_bit.md R274). -/
  | cbSlaL
  /-- `SLA [HL]`, opcode CB26 (43_rotate_shift_bit.md R275). -/
  | cbSlaIndHl
  /-- `SLA A`, opcode CB27 (43_rotate_shift_bit.md R274). -/
  | cbSlaA
  /-- `SRA B`, opcode CB28 (43_rotate_shift_bit.md R276). -/
  | cbSraB
  /-- `SRA C`, opcode CB29 (43_rotate_shift_bit.md R276). -/
  | cbSraC
  /-- `SRA D`, opcode CB2A (43_rotate_shift_bit.md R276). -/
  | cbSraD
  /-- `SRA E`, opcode CB2B (43_rotate_shift_bit.md R276). -/
  | cbSraE
  /-- `SRA H`, opcode CB2C (43_rotate_shift_bit.md R276). -/
  | cbSraH
  /-- `SRA L`, opcode CB2D (43_rotate_shift_bit.md R276). -/
  | cbSraL
  /-- `SRA [HL]`, opcode CB2E (43_rotate_shift_bit.md R277). -/
  | cbSraIndHl
  /-- `SRA A`, opcode CB2F (43_rotate_shift_bit.md R276). -/
  | cbSraA
  /-- `SWAP B`, opcode CB30 (43_rotate_shift_bit.md R278). -/
  | cbSwapB
  /-- `SWAP C`, opcode CB31 (43_rotate_shift_bit.md R278). -/
  | cbSwapC
  /-- `SWAP D`, opcode CB32 (43_rotate_shift_bit.md R278). -/
  | cbSwapD
  /-- `SWAP E`, opcode CB33 (43_rotate_shift_bit.md R278). -/
  | cbSwapE
  /-- `SWAP H`, opcode CB34 (43_rotate_shift_bit.md R278). -/
  | cbSwapH
  /-- `SWAP L`, opcode CB35 (43_rotate_shift_bit.md R278). -/
  | cbSwapL
  /-- `SWAP [HL]`, opcode CB36 (43_rotate_shift_bit.md R279). -/
  | cbSwapIndHl
  /-- `SWAP A`, opcode CB37 (43_rotate_shift_bit.md R278). -/
  | cbSwapA
  /-- `SRL B`, opcode CB38 (43_rotate_shift_bit.md R280). -/
  | cbSrlB
  /-- `SRL C`, opcode CB39 (43_rotate_shift_bit.md R280). -/
  | cbSrlC
  /-- `SRL D`, opcode CB3A (43_rotate_shift_bit.md R280). -/
  | cbSrlD
  /-- `SRL E`, opcode CB3B (43_rotate_shift_bit.md R280). -/
  | cbSrlE
  /-- `SRL H`, opcode CB3C (43_rotate_shift_bit.md R280). -/
  | cbSrlH
  /-- `SRL L`, opcode CB3D (43_rotate_shift_bit.md R280). -/
  | cbSrlL
  /-- `SRL [HL]`, opcode CB3E (43_rotate_shift_bit.md R281). -/
  | cbSrlIndHl
  /-- `SRL A`, opcode CB3F (43_rotate_shift_bit.md R280). -/
  | cbSrlA
  /-- `BIT 0,B`, opcode CB40 (43_rotate_shift_bit.md R282). -/
  | bit0B
  /-- `BIT 0,C`, opcode CB41 (43_rotate_shift_bit.md R282). -/
  | bit0C
  /-- `BIT 0,D`, opcode CB42 (43_rotate_shift_bit.md R282). -/
  | bit0D
  /-- `BIT 0,E`, opcode CB43 (43_rotate_shift_bit.md R282). -/
  | bit0E
  /-- `BIT 0,H`, opcode CB44 (43_rotate_shift_bit.md R282). -/
  | bit0H
  /-- `BIT 0,L`, opcode CB45 (43_rotate_shift_bit.md R282). -/
  | bit0L
  /-- `BIT 0,[HL]`, opcode CB46 (43_rotate_shift_bit.md R283). -/
  | bit0IndHl
  /-- `BIT 0,A`, opcode CB47 (43_rotate_shift_bit.md R282). -/
  | bit0A
  /-- `BIT 1,B`, opcode CB48 (43_rotate_shift_bit.md R282). -/
  | bit1B
  /-- `BIT 1,C`, opcode CB49 (43_rotate_shift_bit.md R282). -/
  | bit1C
  /-- `BIT 1,D`, opcode CB4A (43_rotate_shift_bit.md R282). -/
  | bit1D
  /-- `BIT 1,E`, opcode CB4B (43_rotate_shift_bit.md R282). -/
  | bit1E
  /-- `BIT 1,H`, opcode CB4C (43_rotate_shift_bit.md R282). -/
  | bit1H
  /-- `BIT 1,L`, opcode CB4D (43_rotate_shift_bit.md R282). -/
  | bit1L
  /-- `BIT 1,[HL]`, opcode CB4E (43_rotate_shift_bit.md R283). -/
  | bit1IndHl
  /-- `BIT 1,A`, opcode CB4F (43_rotate_shift_bit.md R282). -/
  | bit1A
  /-- `BIT 2,B`, opcode CB50 (43_rotate_shift_bit.md R282). -/
  | bit2B
  /-- `BIT 2,C`, opcode CB51 (43_rotate_shift_bit.md R282). -/
  | bit2C
  /-- `BIT 2,D`, opcode CB52 (43_rotate_shift_bit.md R282). -/
  | bit2D
  /-- `BIT 2,E`, opcode CB53 (43_rotate_shift_bit.md R282). -/
  | bit2E
  /-- `BIT 2,H`, opcode CB54 (43_rotate_shift_bit.md R282). -/
  | bit2H
  /-- `BIT 2,L`, opcode CB55 (43_rotate_shift_bit.md R282). -/
  | bit2L
  /-- `BIT 2,[HL]`, opcode CB56 (43_rotate_shift_bit.md R283). -/
  | bit2IndHl
  /-- `BIT 2,A`, opcode CB57 (43_rotate_shift_bit.md R282). -/
  | bit2A
  /-- `BIT 3,B`, opcode CB58 (43_rotate_shift_bit.md R282). -/
  | bit3B
  /-- `BIT 3,C`, opcode CB59 (43_rotate_shift_bit.md R282). -/
  | bit3C
  /-- `BIT 3,D`, opcode CB5A (43_rotate_shift_bit.md R282). -/
  | bit3D
  /-- `BIT 3,E`, opcode CB5B (43_rotate_shift_bit.md R282). -/
  | bit3E
  /-- `BIT 3,H`, opcode CB5C (43_rotate_shift_bit.md R282). -/
  | bit3H
  /-- `BIT 3,L`, opcode CB5D (43_rotate_shift_bit.md R282). -/
  | bit3L
  /-- `BIT 3,[HL]`, opcode CB5E (43_rotate_shift_bit.md R283). -/
  | bit3IndHl
  /-- `BIT 3,A`, opcode CB5F (43_rotate_shift_bit.md R282). -/
  | bit3A
  /-- `BIT 4,B`, opcode CB60 (43_rotate_shift_bit.md R282). -/
  | bit4B
  /-- `BIT 4,C`, opcode CB61 (43_rotate_shift_bit.md R282). -/
  | bit4C
  /-- `BIT 4,D`, opcode CB62 (43_rotate_shift_bit.md R282). -/
  | bit4D
  /-- `BIT 4,E`, opcode CB63 (43_rotate_shift_bit.md R282). -/
  | bit4E
  /-- `BIT 4,H`, opcode CB64 (43_rotate_shift_bit.md R282). -/
  | bit4H
  /-- `BIT 4,L`, opcode CB65 (43_rotate_shift_bit.md R282). -/
  | bit4L
  /-- `BIT 4,[HL]`, opcode CB66 (43_rotate_shift_bit.md R283). -/
  | bit4IndHl
  /-- `BIT 4,A`, opcode CB67 (43_rotate_shift_bit.md R282). -/
  | bit4A
  /-- `BIT 5,B`, opcode CB68 (43_rotate_shift_bit.md R282). -/
  | bit5B
  /-- `BIT 5,C`, opcode CB69 (43_rotate_shift_bit.md R282). -/
  | bit5C
  /-- `BIT 5,D`, opcode CB6A (43_rotate_shift_bit.md R282). -/
  | bit5D
  /-- `BIT 5,E`, opcode CB6B (43_rotate_shift_bit.md R282). -/
  | bit5E
  /-- `BIT 5,H`, opcode CB6C (43_rotate_shift_bit.md R282). -/
  | bit5H
  /-- `BIT 5,L`, opcode CB6D (43_rotate_shift_bit.md R282). -/
  | bit5L
  /-- `BIT 5,[HL]`, opcode CB6E (43_rotate_shift_bit.md R283). -/
  | bit5IndHl
  /-- `BIT 5,A`, opcode CB6F (43_rotate_shift_bit.md R282). -/
  | bit5A
  /-- `BIT 6,B`, opcode CB70 (43_rotate_shift_bit.md R282). -/
  | bit6B
  /-- `BIT 6,C`, opcode CB71 (43_rotate_shift_bit.md R282). -/
  | bit6C
  /-- `BIT 6,D`, opcode CB72 (43_rotate_shift_bit.md R282). -/
  | bit6D
  /-- `BIT 6,E`, opcode CB73 (43_rotate_shift_bit.md R282). -/
  | bit6E
  /-- `BIT 6,H`, opcode CB74 (43_rotate_shift_bit.md R282). -/
  | bit6H
  /-- `BIT 6,L`, opcode CB75 (43_rotate_shift_bit.md R282). -/
  | bit6L
  /-- `BIT 6,[HL]`, opcode CB76 (43_rotate_shift_bit.md R283). -/
  | bit6IndHl
  /-- `BIT 6,A`, opcode CB77 (43_rotate_shift_bit.md R282). -/
  | bit6A
  /-- `BIT 7,B`, opcode CB78 (43_rotate_shift_bit.md R282). -/
  | bit7B
  /-- `BIT 7,C`, opcode CB79 (43_rotate_shift_bit.md R282). -/
  | bit7C
  /-- `BIT 7,D`, opcode CB7A (43_rotate_shift_bit.md R282). -/
  | bit7D
  /-- `BIT 7,E`, opcode CB7B (43_rotate_shift_bit.md R282). -/
  | bit7E
  /-- `BIT 7,H`, opcode CB7C (43_rotate_shift_bit.md R282). -/
  | bit7H
  /-- `BIT 7,L`, opcode CB7D (43_rotate_shift_bit.md R282). -/
  | bit7L
  /-- `BIT 7,[HL]`, opcode CB7E (43_rotate_shift_bit.md R283). -/
  | bit7IndHl
  /-- `BIT 7,A`, opcode CB7F (43_rotate_shift_bit.md R282). -/
  | bit7A
  /-- `RES 0,B`, opcode CB80 (43_rotate_shift_bit.md R284). -/
  | res0B
  /-- `RES 0,C`, opcode CB81 (43_rotate_shift_bit.md R284). -/
  | res0C
  /-- `RES 0,D`, opcode CB82 (43_rotate_shift_bit.md R284). -/
  | res0D
  /-- `RES 0,E`, opcode CB83 (43_rotate_shift_bit.md R284). -/
  | res0E
  /-- `RES 0,H`, opcode CB84 (43_rotate_shift_bit.md R284). -/
  | res0H
  /-- `RES 0,L`, opcode CB85 (43_rotate_shift_bit.md R284). -/
  | res0L
  /-- `RES 0,[HL]`, opcode CB86 (43_rotate_shift_bit.md R285). -/
  | res0IndHl
  /-- `RES 0,A`, opcode CB87 (43_rotate_shift_bit.md R284). -/
  | res0A
  /-- `RES 1,B`, opcode CB88 (43_rotate_shift_bit.md R284). -/
  | res1B
  /-- `RES 1,C`, opcode CB89 (43_rotate_shift_bit.md R284). -/
  | res1C
  /-- `RES 1,D`, opcode CB8A (43_rotate_shift_bit.md R284). -/
  | res1D
  /-- `RES 1,E`, opcode CB8B (43_rotate_shift_bit.md R284). -/
  | res1E
  /-- `RES 1,H`, opcode CB8C (43_rotate_shift_bit.md R284). -/
  | res1H
  /-- `RES 1,L`, opcode CB8D (43_rotate_shift_bit.md R284). -/
  | res1L
  /-- `RES 1,[HL]`, opcode CB8E (43_rotate_shift_bit.md R285). -/
  | res1IndHl
  /-- `RES 1,A`, opcode CB8F (43_rotate_shift_bit.md R284). -/
  | res1A
  /-- `RES 2,B`, opcode CB90 (43_rotate_shift_bit.md R284). -/
  | res2B
  /-- `RES 2,C`, opcode CB91 (43_rotate_shift_bit.md R284). -/
  | res2C
  /-- `RES 2,D`, opcode CB92 (43_rotate_shift_bit.md R284). -/
  | res2D
  /-- `RES 2,E`, opcode CB93 (43_rotate_shift_bit.md R284). -/
  | res2E
  /-- `RES 2,H`, opcode CB94 (43_rotate_shift_bit.md R284). -/
  | res2H
  /-- `RES 2,L`, opcode CB95 (43_rotate_shift_bit.md R284). -/
  | res2L
  /-- `RES 2,[HL]`, opcode CB96 (43_rotate_shift_bit.md R285). -/
  | res2IndHl
  /-- `RES 2,A`, opcode CB97 (43_rotate_shift_bit.md R284). -/
  | res2A
  /-- `RES 3,B`, opcode CB98 (43_rotate_shift_bit.md R284). -/
  | res3B
  /-- `RES 3,C`, opcode CB99 (43_rotate_shift_bit.md R284). -/
  | res3C
  /-- `RES 3,D`, opcode CB9A (43_rotate_shift_bit.md R284). -/
  | res3D
  /-- `RES 3,E`, opcode CB9B (43_rotate_shift_bit.md R284). -/
  | res3E
  /-- `RES 3,H`, opcode CB9C (43_rotate_shift_bit.md R284). -/
  | res3H
  /-- `RES 3,L`, opcode CB9D (43_rotate_shift_bit.md R284). -/
  | res3L
  /-- `RES 3,[HL]`, opcode CB9E (43_rotate_shift_bit.md R285). -/
  | res3IndHl
  /-- `RES 3,A`, opcode CB9F (43_rotate_shift_bit.md R284). -/
  | res3A
  /-- `RES 4,B`, opcode CBA0 (43_rotate_shift_bit.md R284). -/
  | res4B
  /-- `RES 4,C`, opcode CBA1 (43_rotate_shift_bit.md R284). -/
  | res4C
  /-- `RES 4,D`, opcode CBA2 (43_rotate_shift_bit.md R284). -/
  | res4D
  /-- `RES 4,E`, opcode CBA3 (43_rotate_shift_bit.md R284). -/
  | res4E
  /-- `RES 4,H`, opcode CBA4 (43_rotate_shift_bit.md R284). -/
  | res4H
  /-- `RES 4,L`, opcode CBA5 (43_rotate_shift_bit.md R284). -/
  | res4L
  /-- `RES 4,[HL]`, opcode CBA6 (43_rotate_shift_bit.md R285). -/
  | res4IndHl
  /-- `RES 4,A`, opcode CBA7 (43_rotate_shift_bit.md R284). -/
  | res4A
  /-- `RES 5,B`, opcode CBA8 (43_rotate_shift_bit.md R284). -/
  | res5B
  /-- `RES 5,C`, opcode CBA9 (43_rotate_shift_bit.md R284). -/
  | res5C
  /-- `RES 5,D`, opcode CBAA (43_rotate_shift_bit.md R284). -/
  | res5D
  /-- `RES 5,E`, opcode CBAB (43_rotate_shift_bit.md R284). -/
  | res5E
  /-- `RES 5,H`, opcode CBAC (43_rotate_shift_bit.md R284). -/
  | res5H
  /-- `RES 5,L`, opcode CBAD (43_rotate_shift_bit.md R284). -/
  | res5L
  /-- `RES 5,[HL]`, opcode CBAE (43_rotate_shift_bit.md R285). -/
  | res5IndHl
  /-- `RES 5,A`, opcode CBAF (43_rotate_shift_bit.md R284). -/
  | res5A
  /-- `RES 6,B`, opcode CBB0 (43_rotate_shift_bit.md R284). -/
  | res6B
  /-- `RES 6,C`, opcode CBB1 (43_rotate_shift_bit.md R284). -/
  | res6C
  /-- `RES 6,D`, opcode CBB2 (43_rotate_shift_bit.md R284). -/
  | res6D
  /-- `RES 6,E`, opcode CBB3 (43_rotate_shift_bit.md R284). -/
  | res6E
  /-- `RES 6,H`, opcode CBB4 (43_rotate_shift_bit.md R284). -/
  | res6H
  /-- `RES 6,L`, opcode CBB5 (43_rotate_shift_bit.md R284). -/
  | res6L
  /-- `RES 6,[HL]`, opcode CBB6 (43_rotate_shift_bit.md R285). -/
  | res6IndHl
  /-- `RES 6,A`, opcode CBB7 (43_rotate_shift_bit.md R284). -/
  | res6A
  /-- `RES 7,B`, opcode CBB8 (43_rotate_shift_bit.md R284). -/
  | res7B
  /-- `RES 7,C`, opcode CBB9 (43_rotate_shift_bit.md R284). -/
  | res7C
  /-- `RES 7,D`, opcode CBBA (43_rotate_shift_bit.md R284). -/
  | res7D
  /-- `RES 7,E`, opcode CBBB (43_rotate_shift_bit.md R284). -/
  | res7E
  /-- `RES 7,H`, opcode CBBC (43_rotate_shift_bit.md R284). -/
  | res7H
  /-- `RES 7,L`, opcode CBBD (43_rotate_shift_bit.md R284). -/
  | res7L
  /-- `RES 7,[HL]`, opcode CBBE (43_rotate_shift_bit.md R285). -/
  | res7IndHl
  /-- `RES 7,A`, opcode CBBF (43_rotate_shift_bit.md R284). -/
  | res7A
  /-- `SET 0,B`, opcode CBC0 (43_rotate_shift_bit.md R286). -/
  | set0B
  /-- `SET 0,C`, opcode CBC1 (43_rotate_shift_bit.md R286). -/
  | set0C
  /-- `SET 0,D`, opcode CBC2 (43_rotate_shift_bit.md R286). -/
  | set0D
  /-- `SET 0,E`, opcode CBC3 (43_rotate_shift_bit.md R286). -/
  | set0E
  /-- `SET 0,H`, opcode CBC4 (43_rotate_shift_bit.md R286). -/
  | set0H
  /-- `SET 0,L`, opcode CBC5 (43_rotate_shift_bit.md R286). -/
  | set0L
  /-- `SET 0,[HL]`, opcode CBC6 (43_rotate_shift_bit.md R287). -/
  | set0IndHl
  /-- `SET 0,A`, opcode CBC7 (43_rotate_shift_bit.md R286). -/
  | set0A
  /-- `SET 1,B`, opcode CBC8 (43_rotate_shift_bit.md R286). -/
  | set1B
  /-- `SET 1,C`, opcode CBC9 (43_rotate_shift_bit.md R286). -/
  | set1C
  /-- `SET 1,D`, opcode CBCA (43_rotate_shift_bit.md R286). -/
  | set1D
  /-- `SET 1,E`, opcode CBCB (43_rotate_shift_bit.md R286). -/
  | set1E
  /-- `SET 1,H`, opcode CBCC (43_rotate_shift_bit.md R286). -/
  | set1H
  /-- `SET 1,L`, opcode CBCD (43_rotate_shift_bit.md R286). -/
  | set1L
  /-- `SET 1,[HL]`, opcode CBCE (43_rotate_shift_bit.md R287). -/
  | set1IndHl
  /-- `SET 1,A`, opcode CBCF (43_rotate_shift_bit.md R286). -/
  | set1A
  /-- `SET 2,B`, opcode CBD0 (43_rotate_shift_bit.md R286). -/
  | set2B
  /-- `SET 2,C`, opcode CBD1 (43_rotate_shift_bit.md R286). -/
  | set2C
  /-- `SET 2,D`, opcode CBD2 (43_rotate_shift_bit.md R286). -/
  | set2D
  /-- `SET 2,E`, opcode CBD3 (43_rotate_shift_bit.md R286). -/
  | set2E
  /-- `SET 2,H`, opcode CBD4 (43_rotate_shift_bit.md R286). -/
  | set2H
  /-- `SET 2,L`, opcode CBD5 (43_rotate_shift_bit.md R286). -/
  | set2L
  /-- `SET 2,[HL]`, opcode CBD6 (43_rotate_shift_bit.md R287). -/
  | set2IndHl
  /-- `SET 2,A`, opcode CBD7 (43_rotate_shift_bit.md R286). -/
  | set2A
  /-- `SET 3,B`, opcode CBD8 (43_rotate_shift_bit.md R286). -/
  | set3B
  /-- `SET 3,C`, opcode CBD9 (43_rotate_shift_bit.md R286). -/
  | set3C
  /-- `SET 3,D`, opcode CBDA (43_rotate_shift_bit.md R286). -/
  | set3D
  /-- `SET 3,E`, opcode CBDB (43_rotate_shift_bit.md R286). -/
  | set3E
  /-- `SET 3,H`, opcode CBDC (43_rotate_shift_bit.md R286). -/
  | set3H
  /-- `SET 3,L`, opcode CBDD (43_rotate_shift_bit.md R286). -/
  | set3L
  /-- `SET 3,[HL]`, opcode CBDE (43_rotate_shift_bit.md R287). -/
  | set3IndHl
  /-- `SET 3,A`, opcode CBDF (43_rotate_shift_bit.md R286). -/
  | set3A
  /-- `SET 4,B`, opcode CBE0 (43_rotate_shift_bit.md R286). -/
  | set4B
  /-- `SET 4,C`, opcode CBE1 (43_rotate_shift_bit.md R286). -/
  | set4C
  /-- `SET 4,D`, opcode CBE2 (43_rotate_shift_bit.md R286). -/
  | set4D
  /-- `SET 4,E`, opcode CBE3 (43_rotate_shift_bit.md R286). -/
  | set4E
  /-- `SET 4,H`, opcode CBE4 (43_rotate_shift_bit.md R286). -/
  | set4H
  /-- `SET 4,L`, opcode CBE5 (43_rotate_shift_bit.md R286). -/
  | set4L
  /-- `SET 4,[HL]`, opcode CBE6 (43_rotate_shift_bit.md R287). -/
  | set4IndHl
  /-- `SET 4,A`, opcode CBE7 (43_rotate_shift_bit.md R286). -/
  | set4A
  /-- `SET 5,B`, opcode CBE8 (43_rotate_shift_bit.md R286). -/
  | set5B
  /-- `SET 5,C`, opcode CBE9 (43_rotate_shift_bit.md R286). -/
  | set5C
  /-- `SET 5,D`, opcode CBEA (43_rotate_shift_bit.md R286). -/
  | set5D
  /-- `SET 5,E`, opcode CBEB (43_rotate_shift_bit.md R286). -/
  | set5E
  /-- `SET 5,H`, opcode CBEC (43_rotate_shift_bit.md R286). -/
  | set5H
  /-- `SET 5,L`, opcode CBED (43_rotate_shift_bit.md R286). -/
  | set5L
  /-- `SET 5,[HL]`, opcode CBEE (43_rotate_shift_bit.md R287). -/
  | set5IndHl
  /-- `SET 5,A`, opcode CBEF (43_rotate_shift_bit.md R286). -/
  | set5A
  /-- `SET 6,B`, opcode CBF0 (43_rotate_shift_bit.md R286). -/
  | set6B
  /-- `SET 6,C`, opcode CBF1 (43_rotate_shift_bit.md R286). -/
  | set6C
  /-- `SET 6,D`, opcode CBF2 (43_rotate_shift_bit.md R286). -/
  | set6D
  /-- `SET 6,E`, opcode CBF3 (43_rotate_shift_bit.md R286). -/
  | set6E
  /-- `SET 6,H`, opcode CBF4 (43_rotate_shift_bit.md R286). -/
  | set6H
  /-- `SET 6,L`, opcode CBF5 (43_rotate_shift_bit.md R286). -/
  | set6L
  /-- `SET 6,[HL]`, opcode CBF6 (43_rotate_shift_bit.md R287). -/
  | set6IndHl
  /-- `SET 6,A`, opcode CBF7 (43_rotate_shift_bit.md R286). -/
  | set6A
  /-- `SET 7,B`, opcode CBF8 (43_rotate_shift_bit.md R286). -/
  | set7B
  /-- `SET 7,C`, opcode CBF9 (43_rotate_shift_bit.md R286). -/
  | set7C
  /-- `SET 7,D`, opcode CBFA (43_rotate_shift_bit.md R286). -/
  | set7D
  /-- `SET 7,E`, opcode CBFB (43_rotate_shift_bit.md R286). -/
  | set7E
  /-- `SET 7,H`, opcode CBFC (43_rotate_shift_bit.md R286). -/
  | set7H
  /-- `SET 7,L`, opcode CBFD (43_rotate_shift_bit.md R286). -/
  | set7L
  /-- `SET 7,[HL]`, opcode CBFE (43_rotate_shift_bit.md R287). -/
  | set7IndHl
  /-- `SET 7,A`, opcode CBFF (43_rotate_shift_bit.md R286). -/
  | set7A
  deriving DecidableEq, Repr

end Sys2Proof
end

