-- ==== Sys2Proof/WellFormed.lean ====
section
/-! DEFINITION. Which terms of `Instr` are instructions. -/

namespace Sys2Proof

/-- The 0xCB row is not an instruction of its own: "the pair (0xCB, cbop) is one 2-byte instruction"
(45_system.md R335), which the CB row's own constructor stands for. Every other term is well formed:
an immediate's type holds exactly the values its bytes can have (30_encoding.md R138), and register,
condition, bit number and target are part of the row. -/
def Instr.wellFormed : Instr → Bool
  | .prefixCb _ => false
  | _ => true

end Sys2Proof
end

