-- ==== Sys2Proof/Decode.lean ====
section
/-! DEFINITION. The decoder, total on any bytes, written from the opcode maps of 30_encoding.md
(R139, R140) and the lengths of R130; after it the encoder, written from the match values of
spec/opcode_table.json; and the families of instructions by their operand fields (R131 to R137). -/

namespace Sys2Proof

/-- A word from its high and low byte: `(high << 8) | low` (00_scope.md R8). -/
def word16 (hi lo : Byte) : Word := hi ++ lo

/-- Bits 15 to 8 of a word. -/
def hiByte (w : Word) : Byte := w.extractLsb' 8 8

/-- Bits 7 to 0 of a word. -/
def loByte (w : Word) : Byte := w.extractLsb' 0 8

/-! ## Primary opcodes (30_encoding.md R139): one function a row of the map, one arm a column -/

/-! ## CB opcodes (30_encoding.md R140): one function a row of the map, one arm a column -/

/-- Row 0x of the CB map. -/
def decodeCbRow0 (low : Nat) : Instr :=
  match low with
  | 0 => .cbRlcB
  | 1 => .cbRlcC
  | 2 => .cbRlcD
  | 3 => .cbRlcE
  | 4 => .cbRlcH
  | 5 => .cbRlcL
  | 6 => .cbRlcIndHl
  | 7 => .cbRlcA
  | 8 => .cbRrcB
  | 9 => .cbRrcC
  | 10 => .cbRrcD
  | 11 => .cbRrcE
  | 12 => .cbRrcH
  | 13 => .cbRrcL
  | 14 => .cbRrcIndHl
  | _ => .cbRrcA

/-- Row 1x of the CB map. -/
def decodeCbRow1 (low : Nat) : Instr :=
  match low with
  | 0 => .cbRlB
  | 1 => .cbRlC
  | 2 => .cbRlD
  | 3 => .cbRlE
  | 4 => .cbRlH
  | 5 => .cbRlL
  | 6 => .cbRlIndHl
  | 7 => .cbRlA
  | 8 => .cbRrB
  | 9 => .cbRrC
  | 10 => .cbRrD
  | 11 => .cbRrE
  | 12 => .cbRrH
  | 13 => .cbRrL
  | 14 => .cbRrIndHl
  | _ => .cbRrA

/-- Row 2x of the CB map. -/
def decodeCbRow2 (low : Nat) : Instr :=
  match low with
  | 0 => .cbSlaB
  | 1 => .cbSlaC
  | 2 => .cbSlaD
  | 3 => .cbSlaE
  | 4 => .cbSlaH
  | 5 => .cbSlaL
  | 6 => .cbSlaIndHl
  | 7 => .cbSlaA
  | 8 => .cbSraB
  | 9 => .cbSraC
  | 10 => .cbSraD
  | 11 => .cbSraE
  | 12 => .cbSraH
  | 13 => .cbSraL
  | 14 => .cbSraIndHl
  | _ => .cbSraA

/-- Row 3x of the CB map. -/
def decodeCbRow3 (low : Nat) : Instr :=
  match low with
  | 0 => .cbSwapB
  | 1 => .cbSwapC
  | 2 => .cbSwapD
  | 3 => .cbSwapE
  | 4 => .cbSwapH
  | 5 => .cbSwapL
  | 6 => .cbSwapIndHl
  | 7 => .cbSwapA
  | 8 => .cbSrlB
  | 9 => .cbSrlC
  | 10 => .cbSrlD
  | 11 => .cbSrlE
  | 12 => .cbSrlH
  | 13 => .cbSrlL
  | 14 => .cbSrlIndHl
  | _ => .cbSrlA

/-- Row 4x of the CB map. -/
def decodeCbRow4 (low : Nat) : Instr :=
  match low with
  | 0 => .bit0B
  | 1 => .bit0C
  | 2 => .bit0D
  | 3 => .bit0E
  | 4 => .bit0H
  | 5 => .bit0L
  | 6 => .bit0IndHl
  | 7 => .bit0A
  | 8 => .bit1B
  | 9 => .bit1C
  | 10 => .bit1D
  | 11 => .bit1E
  | 12 => .bit1H
  | 13 => .bit1L
  | 14 => .bit1IndHl
  | _ => .bit1A

/-- Row 5x of the CB map. -/
def decodeCbRow5 (low : Nat) : Instr :=
  match low with
  | 0 => .bit2B
  | 1 => .bit2C
  | 2 => .bit2D
  | 3 => .bit2E
  | 4 => .bit2H
  | 5 => .bit2L
  | 6 => .bit2IndHl
  | 7 => .bit2A
  | 8 => .bit3B
  | 9 => .bit3C
  | 10 => .bit3D
  | 11 => .bit3E
  | 12 => .bit3H
  | 13 => .bit3L
  | 14 => .bit3IndHl
  | _ => .bit3A

/-- Row 6x of the CB map. -/
def decodeCbRow6 (low : Nat) : Instr :=
  match low with
  | 0 => .bit4B
  | 1 => .bit4C
  | 2 => .bit4D
  | 3 => .bit4E
  | 4 => .bit4H
  | 5 => .bit4L
  | 6 => .bit4IndHl
  | 7 => .bit4A
  | 8 => .bit5B
  | 9 => .bit5C
  | 10 => .bit5D
  | 11 => .bit5E
  | 12 => .bit5H
  | 13 => .bit5L
  | 14 => .bit5IndHl
  | _ => .bit5A

/-- Row 7x of the CB map. -/
def decodeCbRow7 (low : Nat) : Instr :=
  match low with
  | 0 => .bit6B
  | 1 => .bit6C
  | 2 => .bit6D
  | 3 => .bit6E
  | 4 => .bit6H
  | 5 => .bit6L
  | 6 => .bit6IndHl
  | 7 => .bit6A
  | 8 => .bit7B
  | 9 => .bit7C
  | 10 => .bit7D
  | 11 => .bit7E
  | 12 => .bit7H
  | 13 => .bit7L
  | 14 => .bit7IndHl
  | _ => .bit7A

/-- Row 8x of the CB map. -/
def decodeCbRow8 (low : Nat) : Instr :=
  match low with
  | 0 => .res0B
  | 1 => .res0C
  | 2 => .res0D
  | 3 => .res0E
  | 4 => .res0H
  | 5 => .res0L
  | 6 => .res0IndHl
  | 7 => .res0A
  | 8 => .res1B
  | 9 => .res1C
  | 10 => .res1D
  | 11 => .res1E
  | 12 => .res1H
  | 13 => .res1L
  | 14 => .res1IndHl
  | _ => .res1A

/-- Row 9x of the CB map. -/
def decodeCbRow9 (low : Nat) : Instr :=
  match low with
  | 0 => .res2B
  | 1 => .res2C
  | 2 => .res2D
  | 3 => .res2E
  | 4 => .res2H
  | 5 => .res2L
  | 6 => .res2IndHl
  | 7 => .res2A
  | 8 => .res3B
  | 9 => .res3C
  | 10 => .res3D
  | 11 => .res3E
  | 12 => .res3H
  | 13 => .res3L
  | 14 => .res3IndHl
  | _ => .res3A

/-- Row Ax of the CB map. -/
def decodeCbRowA (low : Nat) : Instr :=
  match low with
  | 0 => .res4B
  | 1 => .res4C
  | 2 => .res4D
  | 3 => .res4E
  | 4 => .res4H
  | 5 => .res4L
  | 6 => .res4IndHl
  | 7 => .res4A
  | 8 => .res5B
  | 9 => .res5C
  | 10 => .res5D
  | 11 => .res5E
  | 12 => .res5H
  | 13 => .res5L
  | 14 => .res5IndHl
  | _ => .res5A

/-- Row Bx of the CB map. -/
def decodeCbRowB (low : Nat) : Instr :=
  match low with
  | 0 => .res6B
  | 1 => .res6C
  | 2 => .res6D
  | 3 => .res6E
  | 4 => .res6H
  | 5 => .res6L
  | 6 => .res6IndHl
  | 7 => .res6A
  | 8 => .res7B
  | 9 => .res7C
  | 10 => .res7D
  | 11 => .res7E
  | 12 => .res7H
  | 13 => .res7L
  | 14 => .res7IndHl
  | _ => .res7A

/-- Row Cx of the CB map. -/
def decodeCbRowC (low : Nat) : Instr :=
  match low with
  | 0 => .set0B
  | 1 => .set0C
  | 2 => .set0D
  | 3 => .set0E
  | 4 => .set0H
  | 5 => .set0L
  | 6 => .set0IndHl
  | 7 => .set0A
  | 8 => .set1B
  | 9 => .set1C
  | 10 => .set1D
  | 11 => .set1E
  | 12 => .set1H
  | 13 => .set1L
  | 14 => .set1IndHl
  | _ => .set1A

/-- Row Dx of the CB map. -/
def decodeCbRowD (low : Nat) : Instr :=
  match low with
  | 0 => .set2B
  | 1 => .set2C
  | 2 => .set2D
  | 3 => .set2E
  | 4 => .set2H
  | 5 => .set2L
  | 6 => .set2IndHl
  | 7 => .set2A
  | 8 => .set3B
  | 9 => .set3C
  | 10 => .set3D
  | 11 => .set3E
  | 12 => .set3H
  | 13 => .set3L
  | 14 => .set3IndHl
  | _ => .set3A

/-- Row Ex of the CB map. -/
def decodeCbRowE (low : Nat) : Instr :=
  match low with
  | 0 => .set4B
  | 1 => .set4C
  | 2 => .set4D
  | 3 => .set4E
  | 4 => .set4H
  | 5 => .set4L
  | 6 => .set4IndHl
  | 7 => .set4A
  | 8 => .set5B
  | 9 => .set5C
  | 10 => .set5D
  | 11 => .set5E
  | 12 => .set5H
  | 13 => .set5L
  | 14 => .set5IndHl
  | _ => .set5A

/-- Row Fx of the CB map. -/
def decodeCbRowF (low : Nat) : Instr :=
  match low with
  | 0 => .set6B
  | 1 => .set6C
  | 2 => .set6D
  | 3 => .set6E
  | 4 => .set6H
  | 5 => .set6L
  | 6 => .set6IndHl
  | 7 => .set6A
  | 8 => .set7B
  | 9 => .set7C
  | 10 => .set7D
  | 11 => .set7E
  | 12 => .set7H
  | 13 => .set7L
  | 14 => .set7IndHl
  | _ => .set7A

/-- The instruction of the CB row `cbop`: all 256 values are defined (30_encoding.md R140). -/
def decodeCb (cbop : Byte) : Instr :=
  match cbop.toNat / 16 with
  | 0 => decodeCbRow0 (cbop.toNat % 16)
  | 1 => decodeCbRow1 (cbop.toNat % 16)
  | 2 => decodeCbRow2 (cbop.toNat % 16)
  | 3 => decodeCbRow3 (cbop.toNat % 16)
  | 4 => decodeCbRow4 (cbop.toNat % 16)
  | 5 => decodeCbRow5 (cbop.toNat % 16)
  | 6 => decodeCbRow6 (cbop.toNat % 16)
  | 7 => decodeCbRow7 (cbop.toNat % 16)
  | 8 => decodeCbRow8 (cbop.toNat % 16)
  | 9 => decodeCbRow9 (cbop.toNat % 16)
  | 10 => decodeCbRowA (cbop.toNat % 16)
  | 11 => decodeCbRowB (cbop.toNat % 16)
  | 12 => decodeCbRowC (cbop.toNat % 16)
  | 13 => decodeCbRowD (cbop.toNat % 16)
  | 14 => decodeCbRowE (cbop.toNat % 16)
  | _ => decodeCbRowF (cbop.toNat % 16)

/-- Row 0x of the primary map; `x` is the byte after the opcode, `y` the one after that. -/
def decodeRow0 (low : Nat) (x y : Byte) : Instr :=
  match low with
  | 0 => .nop
  | 1 => .ldBcN16 (word16 y x)
  | 2 => .ldIndBcA
  | 3 => .incBc
  | 4 => .incB
  | 5 => .decB
  | 6 => .ldBN8 x
  | 7 => .rlca
  | 8 => .ldIndA16Sp (word16 y x)
  | 9 => .addHlBc
  | 10 => .ldAIndBc
  | 11 => .decBc
  | 12 => .incC
  | 13 => .decC
  | 14 => .ldCN8 x
  | _ => .rrca

/-- Row 1x of the primary map; `x` is the byte after the opcode, `y` the one after that. -/
def decodeRow1 (low : Nat) (x y : Byte) : Instr :=
  match low with
  | 0 => .stop
  | 1 => .ldDeN16 (word16 y x)
  | 2 => .ldIndDeA
  | 3 => .incDe
  | 4 => .incD
  | 5 => .decD
  | 6 => .ldDN8 x
  | 7 => .rla
  | 8 => .jrE8 x
  | 9 => .addHlDe
  | 10 => .ldAIndDe
  | 11 => .decDe
  | 12 => .incE
  | 13 => .decE
  | 14 => .ldEN8 x
  | _ => .rra

/-- Row 2x of the primary map; `x` is the byte after the opcode, `y` the one after that. -/
def decodeRow2 (low : Nat) (x y : Byte) : Instr :=
  match low with
  | 0 => .jrNzE8 x
  | 1 => .ldHlN16 (word16 y x)
  | 2 => .ldIndHliA
  | 3 => .incHl
  | 4 => .incH
  | 5 => .decH
  | 6 => .ldHN8 x
  | 7 => .daa
  | 8 => .jrZE8 x
  | 9 => .addHlHl
  | 10 => .ldAIndHli
  | 11 => .decHl
  | 12 => .incL
  | 13 => .decL
  | 14 => .ldLN8 x
  | _ => .cpl

/-- Row 3x of the primary map; `x` is the byte after the opcode, `y` the one after that. -/
def decodeRow3 (low : Nat) (x y : Byte) : Instr :=
  match low with
  | 0 => .jrNcE8 x
  | 1 => .ldSpN16 (word16 y x)
  | 2 => .ldIndHldA
  | 3 => .incSp
  | 4 => .incIndHl
  | 5 => .decIndHl
  | 6 => .ldIndHlN8 x
  | 7 => .scf
  | 8 => .jrCE8 x
  | 9 => .addHlSp
  | 10 => .ldAIndHld
  | 11 => .decSp
  | 12 => .incA
  | 13 => .decA
  | 14 => .ldAN8 x
  | _ => .ccf

/-- Row 4x of the primary map; `x` is the byte after the opcode, `y` the one after that. -/
def decodeRow4 (low : Nat) (_x _y : Byte) : Instr :=
  match low with
  | 0 => .ldBB
  | 1 => .ldBC
  | 2 => .ldBD
  | 3 => .ldBE
  | 4 => .ldBH
  | 5 => .ldBL
  | 6 => .ldBIndHl
  | 7 => .ldBA
  | 8 => .ldCB
  | 9 => .ldCC
  | 10 => .ldCD
  | 11 => .ldCE
  | 12 => .ldCH
  | 13 => .ldCL
  | 14 => .ldCIndHl
  | _ => .ldCA

/-- Row 5x of the primary map; `x` is the byte after the opcode, `y` the one after that. -/
def decodeRow5 (low : Nat) (_x _y : Byte) : Instr :=
  match low with
  | 0 => .ldDB
  | 1 => .ldDC
  | 2 => .ldDD
  | 3 => .ldDE
  | 4 => .ldDH
  | 5 => .ldDL
  | 6 => .ldDIndHl
  | 7 => .ldDA
  | 8 => .ldEB
  | 9 => .ldEC
  | 10 => .ldED
  | 11 => .ldEE
  | 12 => .ldEH
  | 13 => .ldEL
  | 14 => .ldEIndHl
  | _ => .ldEA

/-- Row 6x of the primary map; `x` is the byte after the opcode, `y` the one after that. -/
def decodeRow6 (low : Nat) (_x _y : Byte) : Instr :=
  match low with
  | 0 => .ldHB
  | 1 => .ldHC
  | 2 => .ldHD
  | 3 => .ldHE
  | 4 => .ldHH
  | 5 => .ldHL
  | 6 => .ldHIndHl
  | 7 => .ldHA
  | 8 => .ldLB
  | 9 => .ldLC
  | 10 => .ldLD
  | 11 => .ldLE
  | 12 => .ldLH
  | 13 => .ldLL
  | 14 => .ldLIndHl
  | _ => .ldLA

/-- Row 7x of the primary map; `x` is the byte after the opcode, `y` the one after that. -/
def decodeRow7 (low : Nat) (_x _y : Byte) : Instr :=
  match low with
  | 0 => .ldIndHlB
  | 1 => .ldIndHlC
  | 2 => .ldIndHlD
  | 3 => .ldIndHlE
  | 4 => .ldIndHlH
  | 5 => .ldIndHlL
  | 6 => .halt
  | 7 => .ldIndHlA
  | 8 => .ldAB
  | 9 => .ldAC
  | 10 => .ldAD
  | 11 => .ldAE
  | 12 => .ldAH
  | 13 => .ldAL
  | 14 => .ldAIndHl
  | _ => .ldAA

/-- Row 8x of the primary map; `x` is the byte after the opcode, `y` the one after that. -/
def decodeRow8 (low : Nat) (_x _y : Byte) : Instr :=
  match low with
  | 0 => .addAB
  | 1 => .addAC
  | 2 => .addAD
  | 3 => .addAE
  | 4 => .addAH
  | 5 => .addAL
  | 6 => .addAIndHl
  | 7 => .addAA
  | 8 => .adcAB
  | 9 => .adcAC
  | 10 => .adcAD
  | 11 => .adcAE
  | 12 => .adcAH
  | 13 => .adcAL
  | 14 => .adcAIndHl
  | _ => .adcAA

/-- Row 9x of the primary map; `x` is the byte after the opcode, `y` the one after that. -/
def decodeRow9 (low : Nat) (_x _y : Byte) : Instr :=
  match low with
  | 0 => .subAB
  | 1 => .subAC
  | 2 => .subAD
  | 3 => .subAE
  | 4 => .subAH
  | 5 => .subAL
  | 6 => .subAIndHl
  | 7 => .subAA
  | 8 => .sbcAB
  | 9 => .sbcAC
  | 10 => .sbcAD
  | 11 => .sbcAE
  | 12 => .sbcAH
  | 13 => .sbcAL
  | 14 => .sbcAIndHl
  | _ => .sbcAA

/-- Row Ax of the primary map; `x` is the byte after the opcode, `y` the one after that. -/
def decodeRowA (low : Nat) (_x _y : Byte) : Instr :=
  match low with
  | 0 => .andAB
  | 1 => .andAC
  | 2 => .andAD
  | 3 => .andAE
  | 4 => .andAH
  | 5 => .andAL
  | 6 => .andAIndHl
  | 7 => .andAA
  | 8 => .xorAB
  | 9 => .xorAC
  | 10 => .xorAD
  | 11 => .xorAE
  | 12 => .xorAH
  | 13 => .xorAL
  | 14 => .xorAIndHl
  | _ => .xorAA

/-- Row Bx of the primary map; `x` is the byte after the opcode, `y` the one after that. -/
def decodeRowB (low : Nat) (_x _y : Byte) : Instr :=
  match low with
  | 0 => .orAB
  | 1 => .orAC
  | 2 => .orAD
  | 3 => .orAE
  | 4 => .orAH
  | 5 => .orAL
  | 6 => .orAIndHl
  | 7 => .orAA
  | 8 => .cpAB
  | 9 => .cpAC
  | 10 => .cpAD
  | 11 => .cpAE
  | 12 => .cpAH
  | 13 => .cpAL
  | 14 => .cpAIndHl
  | _ => .cpAA

/-- Row Cx of the primary map; `x` is the byte after the opcode, `y` the one after that. -/
def decodeRowC (low : Nat) (x y : Byte) : Instr :=
  match low with
  | 0 => .retNz
  | 1 => .popBc
  | 2 => .jpNzA16 (word16 y x)
  | 3 => .jpA16 (word16 y x)
  | 4 => .callNzA16 (word16 y x)
  | 5 => .pushBc
  | 6 => .addAN8 x
  | 7 => .rst00
  | 8 => .retZ
  | 9 => .ret
  | 10 => .jpZA16 (word16 y x)
  | 11 => decodeCb x
  | 12 => .callZA16 (word16 y x)
  | 13 => .callA16 (word16 y x)
  | 14 => .adcAN8 x
  | _ => .rst08

/-- Row Dx of the primary map; `x` is the byte after the opcode, `y` the one after that. -/
def decodeRowD (low : Nat) (x y : Byte) : Instr :=
  match low with
  | 0 => .retNc
  | 1 => .popDe
  | 2 => .jpNcA16 (word16 y x)
  | 3 => .illegalD3
  | 4 => .callNcA16 (word16 y x)
  | 5 => .pushDe
  | 6 => .subAN8 x
  | 7 => .rst10
  | 8 => .retC
  | 9 => .reti
  | 10 => .jpCA16 (word16 y x)
  | 11 => .illegalDB
  | 12 => .callCA16 (word16 y x)
  | 13 => .illegalDD
  | 14 => .sbcAN8 x
  | _ => .rst18

/-- Row Ex of the primary map; `x` is the byte after the opcode, `y` the one after that. -/
def decodeRowE (low : Nat) (x y : Byte) : Instr :=
  match low with
  | 0 => .ldhIndA8A x
  | 1 => .popHl
  | 2 => .ldhIndCA
  | 3 => .illegalE3
  | 4 => .illegalE4
  | 5 => .pushHl
  | 6 => .andAN8 x
  | 7 => .rst20
  | 8 => .addSpE8 x
  | 9 => .jpHl
  | 10 => .ldIndA16A (word16 y x)
  | 11 => .illegalEB
  | 12 => .illegalEC
  | 13 => .illegalED
  | 14 => .xorAN8 x
  | _ => .rst28

/-- Row Fx of the primary map; `x` is the byte after the opcode, `y` the one after that. -/
def decodeRowF (low : Nat) (x y : Byte) : Instr :=
  match low with
  | 0 => .ldhAIndA8 x
  | 1 => .popAf
  | 2 => .ldhAIndC
  | 3 => .di
  | 4 => .illegalF4
  | 5 => .pushAf
  | 6 => .orAN8 x
  | 7 => .rst30
  | 8 => .ldHlSpE8 x
  | 9 => .ldSpHl
  | 10 => .ldAIndA16 (word16 y x)
  | 11 => .ei
  | 12 => .illegalFC
  | 13 => .illegalFD
  | 14 => .cpAN8 x
  | _ => .rst38

/-- `Decode(op)` (30_encoding.md R141) with the bytes after the opcode at hand; a row that names fewer
immediates does not look at the rest. The eleven opcodes with no table entry decode to their own
rows, whose meaning is the DecodeError. -/
def decodeBytes (op x y : Byte) : Instr :=
  match op.toNat / 16 with
  | 0 => decodeRow0 (op.toNat % 16) x y
  | 1 => decodeRow1 (op.toNat % 16) x y
  | 2 => decodeRow2 (op.toNat % 16) x y
  | 3 => decodeRow3 (op.toNat % 16) x y
  | 4 => decodeRow4 (op.toNat % 16) x y
  | 5 => decodeRow5 (op.toNat % 16) x y
  | 6 => decodeRow6 (op.toNat % 16) x y
  | 7 => decodeRow7 (op.toNat % 16) x y
  | 8 => decodeRow8 (op.toNat % 16) x y
  | 9 => decodeRow9 (op.toNat % 16) x y
  | 10 => decodeRowA (op.toNat % 16) x y
  | 11 => decodeRowB (op.toNat % 16) x y
  | 12 => decodeRowC (op.toNat % 16) x y
  | 13 => decodeRowD (op.toNat % 16) x y
  | 14 => decodeRowE (op.toNat % 16) x y
  | _ => decodeRowF (op.toNat % 16) x y

/-- The opcodes of the three-byte formats op_n16 and op_a16 (30_encoding.md R130). -/
def threeByteOpcodes : List Nat :=
  [0x01, 0x08, 0x11, 0x21, 0x31, 0xC2, 0xC3, 0xC4, 0xCA, 0xCC, 0xCD, 0xD2, 0xD4, 0xDA, 0xDC,
   0xEA, 0xFA]

/-- The opcodes of the two-byte formats op_n8, op_a8, op_e8 and cb (30_encoding.md R130), STOP among
them (R144). -/
def twoByteOpcodes : List Nat :=
  [0x06, 0x0E, 0x10, 0x16, 0x18, 0x1E, 0x20, 0x26, 0x28, 0x2E, 0x30, 0x36, 0x38, 0x3E, 0xC6,
   0xCB, 0xCE, 0xD6, 0xDE, 0xE0, 0xE6, 0xE8, 0xEE, 0xF0, 0xF6, 0xF8, 0xFE]

/-- The length of the instruction that begins with `op`, known "from the opcode alone"
(30_encoding.md R130). -/
def instrLength (op : Byte) : Nat :=
  if threeByteOpcodes.contains op.toNat then 3
  else if twoByteOpcodes.contains op.toNat then 2
  else 1

/-- How many bytes after the opcode are fetched before the instruction's pseudocode runs
(00_scope.md R15): all of them, but for STOP, whose rule names no immediate and fetches the second
byte itself, in one of its two modes (45_system.md R332). -/
def operandCount (op : Byte) : Nat :=
  if op = 0x10 then 0 else instrLength op - 1

/-- Why a list of bytes is no instruction: it ends before the instruction does. Every complete list
of bytes has a decoding. -/
inductive DecodeReject where
  | empty | truncated
  deriving DecidableEq, Repr

/-- Decode the instruction at the front of a list of bytes and give the bytes after it. -/
def decode : List Byte → Except DecodeReject (Instr × List Byte)
  | [] => .error .empty
  | op :: rest =>
    match instrLength op with
    | 1 => .ok (decodeBytes op 0 0, rest)
    | 2 =>
      match rest with
      | x :: rest => .ok (decodeBytes op x 0, rest)
      | [] => .error .truncated
    | _ =>
      match rest with
      | x :: y :: rest => .ok (decodeBytes op x y, rest)
      | _ => .error .truncated

/-! ## The encoder -/

/-- A one-byte instruction. -/
def encode1 (op : Byte) : List Byte := [op]

/-- An opcode and a byte after it. -/
def encode2 (op x : Byte) : List Byte := [op, x]

/-- An opcode and a 16-bit immediate, low byte first (30_encoding.md R138). -/
def encode3 (op : Byte) (w : Word) : List Byte := [op, loByte w, hiByte w]

/-- The bytes of an instruction, lowest address first (30_encoding.md R130). STOP's second byte is
"conventionally 0x00" (R144). -/
def encode : Instr → List Byte
  | .nop => encode1 0x00
  | .ldBcN16 n => encode3 0x01 n
  | .ldIndBcA => encode1 0x02
  | .incBc => encode1 0x03
  | .incB => encode1 0x04
  | .decB => encode1 0x05
  | .ldBN8 n => encode2 0x06 n
  | .rlca => encode1 0x07
  | .ldIndA16Sp a => encode3 0x08 a
  | .addHlBc => encode1 0x09
  | .ldAIndBc => encode1 0x0A
  | .decBc => encode1 0x0B
  | .incC => encode1 0x0C
  | .decC => encode1 0x0D
  | .ldCN8 n => encode2 0x0E n
  | .rrca => encode1 0x0F
  | .stop => encode2 0x10 0x00
  | .ldDeN16 n => encode3 0x11 n
  | .ldIndDeA => encode1 0x12
  | .incDe => encode1 0x13
  | .incD => encode1 0x14
  | .decD => encode1 0x15
  | .ldDN8 n => encode2 0x16 n
  | .rla => encode1 0x17
  | .jrE8 e => encode2 0x18 e
  | .addHlDe => encode1 0x19
  | .ldAIndDe => encode1 0x1A
  | .decDe => encode1 0x1B
  | .incE => encode1 0x1C
  | .decE => encode1 0x1D
  | .ldEN8 n => encode2 0x1E n
  | .rra => encode1 0x1F
  | .jrNzE8 e => encode2 0x20 e
  | .ldHlN16 n => encode3 0x21 n
  | .ldIndHliA => encode1 0x22
  | .incHl => encode1 0x23
  | .incH => encode1 0x24
  | .decH => encode1 0x25
  | .ldHN8 n => encode2 0x26 n
  | .daa => encode1 0x27
  | .jrZE8 e => encode2 0x28 e
  | .addHlHl => encode1 0x29
  | .ldAIndHli => encode1 0x2A
  | .decHl => encode1 0x2B
  | .incL => encode1 0x2C
  | .decL => encode1 0x2D
  | .ldLN8 n => encode2 0x2E n
  | .cpl => encode1 0x2F
  | .jrNcE8 e => encode2 0x30 e
  | .ldSpN16 n => encode3 0x31 n
  | .ldIndHldA => encode1 0x32
  | .incSp => encode1 0x33
  | .incIndHl => encode1 0x34
  | .decIndHl => encode1 0x35
  | .ldIndHlN8 n => encode2 0x36 n
  | .scf => encode1 0x37
  | .jrCE8 e => encode2 0x38 e
  | .addHlSp => encode1 0x39
  | .ldAIndHld => encode1 0x3A
  | .decSp => encode1 0x3B
  | .incA => encode1 0x3C
  | .decA => encode1 0x3D
  | .ldAN8 n => encode2 0x3E n
  | .ccf => encode1 0x3F
  | .ldBB => encode1 0x40
  | .ldBC => encode1 0x41
  | .ldBD => encode1 0x42
  | .ldBE => encode1 0x43
  | .ldBH => encode1 0x44
  | .ldBL => encode1 0x45
  | .ldBIndHl => encode1 0x46
  | .ldBA => encode1 0x47
  | .ldCB => encode1 0x48
  | .ldCC => encode1 0x49
  | .ldCD => encode1 0x4A
  | .ldCE => encode1 0x4B
  | .ldCH => encode1 0x4C
  | .ldCL => encode1 0x4D
  | .ldCIndHl => encode1 0x4E
  | .ldCA => encode1 0x4F
  | .ldDB => encode1 0x50
  | .ldDC => encode1 0x51
  | .ldDD => encode1 0x52
  | .ldDE => encode1 0x53
  | .ldDH => encode1 0x54
  | .ldDL => encode1 0x55
  | .ldDIndHl => encode1 0x56
  | .ldDA => encode1 0x57
  | .ldEB => encode1 0x58
  | .ldEC => encode1 0x59
  | .ldED => encode1 0x5A
  | .ldEE => encode1 0x5B
  | .ldEH => encode1 0x5C
  | .ldEL => encode1 0x5D
  | .ldEIndHl => encode1 0x5E
  | .ldEA => encode1 0x5F
  | .ldHB => encode1 0x60
  | .ldHC => encode1 0x61
  | .ldHD => encode1 0x62
  | .ldHE => encode1 0x63
  | .ldHH => encode1 0x64
  | .ldHL => encode1 0x65
  | .ldHIndHl => encode1 0x66
  | .ldHA => encode1 0x67
  | .ldLB => encode1 0x68
  | .ldLC => encode1 0x69
  | .ldLD => encode1 0x6A
  | .ldLE => encode1 0x6B
  | .ldLH => encode1 0x6C
  | .ldLL => encode1 0x6D
  | .ldLIndHl => encode1 0x6E
  | .ldLA => encode1 0x6F
  | .ldIndHlB => encode1 0x70
  | .ldIndHlC => encode1 0x71
  | .ldIndHlD => encode1 0x72
  | .ldIndHlE => encode1 0x73
  | .ldIndHlH => encode1 0x74
  | .ldIndHlL => encode1 0x75
  | .halt => encode1 0x76
  | .ldIndHlA => encode1 0x77
  | .ldAB => encode1 0x78
  | .ldAC => encode1 0x79
  | .ldAD => encode1 0x7A
  | .ldAE => encode1 0x7B
  | .ldAH => encode1 0x7C
  | .ldAL => encode1 0x7D
  | .ldAIndHl => encode1 0x7E
  | .ldAA => encode1 0x7F
  | .addAB => encode1 0x80
  | .addAC => encode1 0x81
  | .addAD => encode1 0x82
  | .addAE => encode1 0x83
  | .addAH => encode1 0x84
  | .addAL => encode1 0x85
  | .addAIndHl => encode1 0x86
  | .addAA => encode1 0x87
  | .adcAB => encode1 0x88
  | .adcAC => encode1 0x89
  | .adcAD => encode1 0x8A
  | .adcAE => encode1 0x8B
  | .adcAH => encode1 0x8C
  | .adcAL => encode1 0x8D
  | .adcAIndHl => encode1 0x8E
  | .adcAA => encode1 0x8F
  | .subAB => encode1 0x90
  | .subAC => encode1 0x91
  | .subAD => encode1 0x92
  | .subAE => encode1 0x93
  | .subAH => encode1 0x94
  | .subAL => encode1 0x95
  | .subAIndHl => encode1 0x96
  | .subAA => encode1 0x97
  | .sbcAB => encode1 0x98
  | .sbcAC => encode1 0x99
  | .sbcAD => encode1 0x9A
  | .sbcAE => encode1 0x9B
  | .sbcAH => encode1 0x9C
  | .sbcAL => encode1 0x9D
  | .sbcAIndHl => encode1 0x9E
  | .sbcAA => encode1 0x9F
  | .andAB => encode1 0xA0
  | .andAC => encode1 0xA1
  | .andAD => encode1 0xA2
  | .andAE => encode1 0xA3
  | .andAH => encode1 0xA4
  | .andAL => encode1 0xA5
  | .andAIndHl => encode1 0xA6
  | .andAA => encode1 0xA7
  | .xorAB => encode1 0xA8
  | .xorAC => encode1 0xA9
  | .xorAD => encode1 0xAA
  | .xorAE => encode1 0xAB
  | .xorAH => encode1 0xAC
  | .xorAL => encode1 0xAD
  | .xorAIndHl => encode1 0xAE
  | .xorAA => encode1 0xAF
  | .orAB => encode1 0xB0
  | .orAC => encode1 0xB1
  | .orAD => encode1 0xB2
  | .orAE => encode1 0xB3
  | .orAH => encode1 0xB4
  | .orAL => encode1 0xB5
  | .orAIndHl => encode1 0xB6
  | .orAA => encode1 0xB7
  | .cpAB => encode1 0xB8
  | .cpAC => encode1 0xB9
  | .cpAD => encode1 0xBA
  | .cpAE => encode1 0xBB
  | .cpAH => encode1 0xBC
  | .cpAL => encode1 0xBD
  | .cpAIndHl => encode1 0xBE
  | .cpAA => encode1 0xBF
  | .retNz => encode1 0xC0
  | .popBc => encode1 0xC1
  | .jpNzA16 a => encode3 0xC2 a
  | .jpA16 a => encode3 0xC3 a
  | .callNzA16 a => encode3 0xC4 a
  | .pushBc => encode1 0xC5
  | .addAN8 n => encode2 0xC6 n
  | .rst00 => encode1 0xC7
  | .retZ => encode1 0xC8
  | .ret => encode1 0xC9
  | .jpZA16 a => encode3 0xCA a
  | .prefixCb cbop => encode2 0xCB cbop
  | .callZA16 a => encode3 0xCC a
  | .callA16 a => encode3 0xCD a
  | .adcAN8 n => encode2 0xCE n
  | .rst08 => encode1 0xCF
  | .retNc => encode1 0xD0
  | .popDe => encode1 0xD1
  | .jpNcA16 a => encode3 0xD2 a
  | .illegalD3 => encode1 0xD3
  | .callNcA16 a => encode3 0xD4 a
  | .pushDe => encode1 0xD5
  | .subAN8 n => encode2 0xD6 n
  | .rst10 => encode1 0xD7
  | .retC => encode1 0xD8
  | .reti => encode1 0xD9
  | .jpCA16 a => encode3 0xDA a
  | .illegalDB => encode1 0xDB
  | .callCA16 a => encode3 0xDC a
  | .illegalDD => encode1 0xDD
  | .sbcAN8 n => encode2 0xDE n
  | .rst18 => encode1 0xDF
  | .ldhIndA8A n => encode2 0xE0 n
  | .popHl => encode1 0xE1
  | .ldhIndCA => encode1 0xE2
  | .illegalE3 => encode1 0xE3
  | .illegalE4 => encode1 0xE4
  | .pushHl => encode1 0xE5
  | .andAN8 n => encode2 0xE6 n
  | .rst20 => encode1 0xE7
  | .addSpE8 e => encode2 0xE8 e
  | .jpHl => encode1 0xE9
  | .ldIndA16A a => encode3 0xEA a
  | .illegalEB => encode1 0xEB
  | .illegalEC => encode1 0xEC
  | .illegalED => encode1 0xED
  | .xorAN8 n => encode2 0xEE n
  | .rst28 => encode1 0xEF
  | .ldhAIndA8 n => encode2 0xF0 n
  | .popAf => encode1 0xF1
  | .ldhAIndC => encode1 0xF2
  | .di => encode1 0xF3
  | .illegalF4 => encode1 0xF4
  | .pushAf => encode1 0xF5
  | .orAN8 n => encode2 0xF6 n
  | .rst30 => encode1 0xF7
  | .ldHlSpE8 e => encode2 0xF8 e
  | .ldSpHl => encode1 0xF9
  | .ldAIndA16 a => encode3 0xFA a
  | .ei => encode1 0xFB
  | .illegalFC => encode1 0xFC
  | .illegalFD => encode1 0xFD
  | .cpAN8 n => encode2 0xFE n
  | .rst38 => encode1 0xFF
  | .cbRlcB => encode2 0xCB 0x00
  | .cbRlcC => encode2 0xCB 0x01
  | .cbRlcD => encode2 0xCB 0x02
  | .cbRlcE => encode2 0xCB 0x03
  | .cbRlcH => encode2 0xCB 0x04
  | .cbRlcL => encode2 0xCB 0x05
  | .cbRlcIndHl => encode2 0xCB 0x06
  | .cbRlcA => encode2 0xCB 0x07
  | .cbRrcB => encode2 0xCB 0x08
  | .cbRrcC => encode2 0xCB 0x09
  | .cbRrcD => encode2 0xCB 0x0A
  | .cbRrcE => encode2 0xCB 0x0B
  | .cbRrcH => encode2 0xCB 0x0C
  | .cbRrcL => encode2 0xCB 0x0D
  | .cbRrcIndHl => encode2 0xCB 0x0E
  | .cbRrcA => encode2 0xCB 0x0F
  | .cbRlB => encode2 0xCB 0x10
  | .cbRlC => encode2 0xCB 0x11
  | .cbRlD => encode2 0xCB 0x12
  | .cbRlE => encode2 0xCB 0x13
  | .cbRlH => encode2 0xCB 0x14
  | .cbRlL => encode2 0xCB 0x15
  | .cbRlIndHl => encode2 0xCB 0x16
  | .cbRlA => encode2 0xCB 0x17
  | .cbRrB => encode2 0xCB 0x18
  | .cbRrC => encode2 0xCB 0x19
  | .cbRrD => encode2 0xCB 0x1A
  | .cbRrE => encode2 0xCB 0x1B
  | .cbRrH => encode2 0xCB 0x1C
  | .cbRrL => encode2 0xCB 0x1D
  | .cbRrIndHl => encode2 0xCB 0x1E
  | .cbRrA => encode2 0xCB 0x1F
  | .cbSlaB => encode2 0xCB 0x20
  | .cbSlaC => encode2 0xCB 0x21
  | .cbSlaD => encode2 0xCB 0x22
  | .cbSlaE => encode2 0xCB 0x23
  | .cbSlaH => encode2 0xCB 0x24
  | .cbSlaL => encode2 0xCB 0x25
  | .cbSlaIndHl => encode2 0xCB 0x26
  | .cbSlaA => encode2 0xCB 0x27
  | .cbSraB => encode2 0xCB 0x28
  | .cbSraC => encode2 0xCB 0x29
  | .cbSraD => encode2 0xCB 0x2A
  | .cbSraE => encode2 0xCB 0x2B
  | .cbSraH => encode2 0xCB 0x2C
  | .cbSraL => encode2 0xCB 0x2D
  | .cbSraIndHl => encode2 0xCB 0x2E
  | .cbSraA => encode2 0xCB 0x2F
  | .cbSwapB => encode2 0xCB 0x30
  | .cbSwapC => encode2 0xCB 0x31
  | .cbSwapD => encode2 0xCB 0x32
  | .cbSwapE => encode2 0xCB 0x33
  | .cbSwapH => encode2 0xCB 0x34
  | .cbSwapL => encode2 0xCB 0x35
  | .cbSwapIndHl => encode2 0xCB 0x36
  | .cbSwapA => encode2 0xCB 0x37
  | .cbSrlB => encode2 0xCB 0x38
  | .cbSrlC => encode2 0xCB 0x39
  | .cbSrlD => encode2 0xCB 0x3A
  | .cbSrlE => encode2 0xCB 0x3B
  | .cbSrlH => encode2 0xCB 0x3C
  | .cbSrlL => encode2 0xCB 0x3D
  | .cbSrlIndHl => encode2 0xCB 0x3E
  | .cbSrlA => encode2 0xCB 0x3F
  | .bit0B => encode2 0xCB 0x40
  | .bit0C => encode2 0xCB 0x41
  | .bit0D => encode2 0xCB 0x42
  | .bit0E => encode2 0xCB 0x43
  | .bit0H => encode2 0xCB 0x44
  | .bit0L => encode2 0xCB 0x45
  | .bit0IndHl => encode2 0xCB 0x46
  | .bit0A => encode2 0xCB 0x47
  | .bit1B => encode2 0xCB 0x48
  | .bit1C => encode2 0xCB 0x49
  | .bit1D => encode2 0xCB 0x4A
  | .bit1E => encode2 0xCB 0x4B
  | .bit1H => encode2 0xCB 0x4C
  | .bit1L => encode2 0xCB 0x4D
  | .bit1IndHl => encode2 0xCB 0x4E
  | .bit1A => encode2 0xCB 0x4F
  | .bit2B => encode2 0xCB 0x50
  | .bit2C => encode2 0xCB 0x51
  | .bit2D => encode2 0xCB 0x52
  | .bit2E => encode2 0xCB 0x53
  | .bit2H => encode2 0xCB 0x54
  | .bit2L => encode2 0xCB 0x55
  | .bit2IndHl => encode2 0xCB 0x56
  | .bit2A => encode2 0xCB 0x57
  | .bit3B => encode2 0xCB 0x58
  | .bit3C => encode2 0xCB 0x59
  | .bit3D => encode2 0xCB 0x5A
  | .bit3E => encode2 0xCB 0x5B
  | .bit3H => encode2 0xCB 0x5C
  | .bit3L => encode2 0xCB 0x5D
  | .bit3IndHl => encode2 0xCB 0x5E
  | .bit3A => encode2 0xCB 0x5F
  | .bit4B => encode2 0xCB 0x60
  | .bit4C => encode2 0xCB 0x61
  | .bit4D => encode2 0xCB 0x62
  | .bit4E => encode2 0xCB 0x63
  | .bit4H => encode2 0xCB 0x64
  | .bit4L => encode2 0xCB 0x65
  | .bit4IndHl => encode2 0xCB 0x66
  | .bit4A => encode2 0xCB 0x67
  | .bit5B => encode2 0xCB 0x68
  | .bit5C => encode2 0xCB 0x69
  | .bit5D => encode2 0xCB 0x6A
  | .bit5E => encode2 0xCB 0x6B
  | .bit5H => encode2 0xCB 0x6C
  | .bit5L => encode2 0xCB 0x6D
  | .bit5IndHl => encode2 0xCB 0x6E
  | .bit5A => encode2 0xCB 0x6F
  | .bit6B => encode2 0xCB 0x70
  | .bit6C => encode2 0xCB 0x71
  | .bit6D => encode2 0xCB 0x72
  | .bit6E => encode2 0xCB 0x73
  | .bit6H => encode2 0xCB 0x74
  | .bit6L => encode2 0xCB 0x75
  | .bit6IndHl => encode2 0xCB 0x76
  | .bit6A => encode2 0xCB 0x77
  | .bit7B => encode2 0xCB 0x78
  | .bit7C => encode2 0xCB 0x79
  | .bit7D => encode2 0xCB 0x7A
  | .bit7E => encode2 0xCB 0x7B
  | .bit7H => encode2 0xCB 0x7C
  | .bit7L => encode2 0xCB 0x7D
  | .bit7IndHl => encode2 0xCB 0x7E
  | .bit7A => encode2 0xCB 0x7F
  | .res0B => encode2 0xCB 0x80
  | .res0C => encode2 0xCB 0x81
  | .res0D => encode2 0xCB 0x82
  | .res0E => encode2 0xCB 0x83
  | .res0H => encode2 0xCB 0x84
  | .res0L => encode2 0xCB 0x85
  | .res0IndHl => encode2 0xCB 0x86
  | .res0A => encode2 0xCB 0x87
  | .res1B => encode2 0xCB 0x88
  | .res1C => encode2 0xCB 0x89
  | .res1D => encode2 0xCB 0x8A
  | .res1E => encode2 0xCB 0x8B
  | .res1H => encode2 0xCB 0x8C
  | .res1L => encode2 0xCB 0x8D
  | .res1IndHl => encode2 0xCB 0x8E
  | .res1A => encode2 0xCB 0x8F
  | .res2B => encode2 0xCB 0x90
  | .res2C => encode2 0xCB 0x91
  | .res2D => encode2 0xCB 0x92
  | .res2E => encode2 0xCB 0x93
  | .res2H => encode2 0xCB 0x94
  | .res2L => encode2 0xCB 0x95
  | .res2IndHl => encode2 0xCB 0x96
  | .res2A => encode2 0xCB 0x97
  | .res3B => encode2 0xCB 0x98
  | .res3C => encode2 0xCB 0x99
  | .res3D => encode2 0xCB 0x9A
  | .res3E => encode2 0xCB 0x9B
  | .res3H => encode2 0xCB 0x9C
  | .res3L => encode2 0xCB 0x9D
  | .res3IndHl => encode2 0xCB 0x9E
  | .res3A => encode2 0xCB 0x9F
  | .res4B => encode2 0xCB 0xA0
  | .res4C => encode2 0xCB 0xA1
  | .res4D => encode2 0xCB 0xA2
  | .res4E => encode2 0xCB 0xA3
  | .res4H => encode2 0xCB 0xA4
  | .res4L => encode2 0xCB 0xA5
  | .res4IndHl => encode2 0xCB 0xA6
  | .res4A => encode2 0xCB 0xA7
  | .res5B => encode2 0xCB 0xA8
  | .res5C => encode2 0xCB 0xA9
  | .res5D => encode2 0xCB 0xAA
  | .res5E => encode2 0xCB 0xAB
  | .res5H => encode2 0xCB 0xAC
  | .res5L => encode2 0xCB 0xAD
  | .res5IndHl => encode2 0xCB 0xAE
  | .res5A => encode2 0xCB 0xAF
  | .res6B => encode2 0xCB 0xB0
  | .res6C => encode2 0xCB 0xB1
  | .res6D => encode2 0xCB 0xB2
  | .res6E => encode2 0xCB 0xB3
  | .res6H => encode2 0xCB 0xB4
  | .res6L => encode2 0xCB 0xB5
  | .res6IndHl => encode2 0xCB 0xB6
  | .res6A => encode2 0xCB 0xB7
  | .res7B => encode2 0xCB 0xB8
  | .res7C => encode2 0xCB 0xB9
  | .res7D => encode2 0xCB 0xBA
  | .res7E => encode2 0xCB 0xBB
  | .res7H => encode2 0xCB 0xBC
  | .res7L => encode2 0xCB 0xBD
  | .res7IndHl => encode2 0xCB 0xBE
  | .res7A => encode2 0xCB 0xBF
  | .set0B => encode2 0xCB 0xC0
  | .set0C => encode2 0xCB 0xC1
  | .set0D => encode2 0xCB 0xC2
  | .set0E => encode2 0xCB 0xC3
  | .set0H => encode2 0xCB 0xC4
  | .set0L => encode2 0xCB 0xC5
  | .set0IndHl => encode2 0xCB 0xC6
  | .set0A => encode2 0xCB 0xC7
  | .set1B => encode2 0xCB 0xC8
  | .set1C => encode2 0xCB 0xC9
  | .set1D => encode2 0xCB 0xCA
  | .set1E => encode2 0xCB 0xCB
  | .set1H => encode2 0xCB 0xCC
  | .set1L => encode2 0xCB 0xCD
  | .set1IndHl => encode2 0xCB 0xCE
  | .set1A => encode2 0xCB 0xCF
  | .set2B => encode2 0xCB 0xD0
  | .set2C => encode2 0xCB 0xD1
  | .set2D => encode2 0xCB 0xD2
  | .set2E => encode2 0xCB 0xD3
  | .set2H => encode2 0xCB 0xD4
  | .set2L => encode2 0xCB 0xD5
  | .set2IndHl => encode2 0xCB 0xD6
  | .set2A => encode2 0xCB 0xD7
  | .set3B => encode2 0xCB 0xD8
  | .set3C => encode2 0xCB 0xD9
  | .set3D => encode2 0xCB 0xDA
  | .set3E => encode2 0xCB 0xDB
  | .set3H => encode2 0xCB 0xDC
  | .set3L => encode2 0xCB 0xDD
  | .set3IndHl => encode2 0xCB 0xDE
  | .set3A => encode2 0xCB 0xDF
  | .set4B => encode2 0xCB 0xE0
  | .set4C => encode2 0xCB 0xE1
  | .set4D => encode2 0xCB 0xE2
  | .set4E => encode2 0xCB 0xE3
  | .set4H => encode2 0xCB 0xE4
  | .set4L => encode2 0xCB 0xE5
  | .set4IndHl => encode2 0xCB 0xE6
  | .set4A => encode2 0xCB 0xE7
  | .set5B => encode2 0xCB 0xE8
  | .set5C => encode2 0xCB 0xE9
  | .set5D => encode2 0xCB 0xEA
  | .set5E => encode2 0xCB 0xEB
  | .set5H => encode2 0xCB 0xEC
  | .set5L => encode2 0xCB 0xED
  | .set5IndHl => encode2 0xCB 0xEE
  | .set5A => encode2 0xCB 0xEF
  | .set6B => encode2 0xCB 0xF0
  | .set6C => encode2 0xCB 0xF1
  | .set6D => encode2 0xCB 0xF2
  | .set6E => encode2 0xCB 0xF3
  | .set6H => encode2 0xCB 0xF4
  | .set6L => encode2 0xCB 0xF5
  | .set6IndHl => encode2 0xCB 0xF6
  | .set6A => encode2 0xCB 0xF7
  | .set7B => encode2 0xCB 0xF8
  | .set7C => encode2 0xCB 0xF9
  | .set7D => encode2 0xCB 0xFA
  | .set7E => encode2 0xCB 0xFB
  | .set7H => encode2 0xCB 0xFC
  | .set7L => encode2 0xCB 0xFD
  | .set7IndHl => encode2 0xCB 0xFE
  | .set7A => encode2 0xCB 0xFF

/-! ## Families: the row a choice of operand fields selects (30_encoding.md R131 to R137)

These name, for statements about a family, the constructor of each choice of its operand fields. -/

/-- `LD r8,r8'` (40_loads.md R161). -/
def Instr.ldRegReg : Reg8 → Reg8 → Instr
  | .b, .b => .ldBB
  | .b, .c => .ldBC
  | .b, .d => .ldBD
  | .b, .e => .ldBE
  | .b, .h => .ldBH
  | .b, .l => .ldBL
  | .b, .a => .ldBA
  | .c, .b => .ldCB
  | .c, .c => .ldCC
  | .c, .d => .ldCD
  | .c, .e => .ldCE
  | .c, .h => .ldCH
  | .c, .l => .ldCL
  | .c, .a => .ldCA
  | .d, .b => .ldDB
  | .d, .c => .ldDC
  | .d, .d => .ldDD
  | .d, .e => .ldDE
  | .d, .h => .ldDH
  | .d, .l => .ldDL
  | .d, .a => .ldDA
  | .e, .b => .ldEB
  | .e, .c => .ldEC
  | .e, .d => .ldED
  | .e, .e => .ldEE
  | .e, .h => .ldEH
  | .e, .l => .ldEL
  | .e, .a => .ldEA
  | .h, .b => .ldHB
  | .h, .c => .ldHC
  | .h, .d => .ldHD
  | .h, .e => .ldHE
  | .h, .h => .ldHH
  | .h, .l => .ldHL
  | .h, .a => .ldHA
  | .l, .b => .ldLB
  | .l, .c => .ldLC
  | .l, .d => .ldLD
  | .l, .e => .ldLE
  | .l, .h => .ldLH
  | .l, .l => .ldLL
  | .l, .a => .ldLA
  | .a, .b => .ldAB
  | .a, .c => .ldAC
  | .a, .d => .ldAD
  | .a, .e => .ldAE
  | .a, .h => .ldAH
  | .a, .l => .ldAL
  | .a, .a => .ldAA

/-- `LD r8,[HL]` (40_loads.md R162). -/
def Instr.ldRegHl : Reg8 → Instr
  | .b => .ldBIndHl
  | .c => .ldCIndHl
  | .d => .ldDIndHl
  | .e => .ldEIndHl
  | .h => .ldHIndHl
  | .l => .ldLIndHl
  | .a => .ldAIndHl

/-- `LD [HL],r8` (40_loads.md R163). -/
def Instr.ldHlReg : Reg8 → Instr
  | .b => .ldIndHlB
  | .c => .ldIndHlC
  | .d => .ldIndHlD
  | .e => .ldIndHlE
  | .h => .ldIndHlH
  | .l => .ldIndHlL
  | .a => .ldIndHlA

/-- `LD r8,n8` (40_loads.md R164). -/
def Instr.ldRegImm (n : Byte) : Reg8 → Instr
  | .b => .ldBN8 n
  | .c => .ldCN8 n
  | .d => .ldDN8 n
  | .e => .ldEN8 n
  | .h => .ldHN8 n
  | .l => .ldLN8 n
  | .a => .ldAN8 n

/-- `LD rr,n16` (40_loads.md R178). -/
def Instr.ldPairImm (n : Word) : Pair → Instr
  | .bc => .ldBcN16 n
  | .de => .ldDeN16 n
  | .hl => .ldHlN16 n
  | .sp => .ldSpN16 n

/-- `PUSH rr` (40_loads.md R182, R184). -/
def Instr.pushPair : StackPair → Instr
  | .bc => .pushBc
  | .de => .pushDe
  | .hl => .pushHl
  | .af => .pushAf

/-- `POP rr` (40_loads.md R183, R185). -/
def Instr.popPair : StackPair → Instr
  | .bc => .popBc
  | .de => .popDe
  | .hl => .popHl
  | .af => .popAf

/-- `INC r8` (41_alu8.md R202). -/
def Instr.incReg : Reg8 → Instr
  | .b => .incB
  | .c => .incC
  | .d => .incD
  | .e => .incE
  | .h => .incH
  | .l => .incL
  | .a => .incA

/-- `DEC r8` (41_alu8.md R204). -/
def Instr.decReg : Reg8 → Instr
  | .b => .decB
  | .c => .decC
  | .d => .decD
  | .e => .decE
  | .h => .decH
  | .l => .decL
  | .a => .decA

/-- The register form of an 8-bit ALU operation (41_alu8.md R200). -/
def Instr.aluReg : AluOp → Reg8 → Instr
  | .add, .b => .addAB
  | .add, .c => .addAC
  | .add, .d => .addAD
  | .add, .e => .addAE
  | .add, .h => .addAH
  | .add, .l => .addAL
  | .add, .a => .addAA
  | .adc, .b => .adcAB
  | .adc, .c => .adcAC
  | .adc, .d => .adcAD
  | .adc, .e => .adcAE
  | .adc, .h => .adcAH
  | .adc, .l => .adcAL
  | .adc, .a => .adcAA
  | .sub, .b => .subAB
  | .sub, .c => .subAC
  | .sub, .d => .subAD
  | .sub, .e => .subAE
  | .sub, .h => .subAH
  | .sub, .l => .subAL
  | .sub, .a => .subAA
  | .sbc, .b => .sbcAB
  | .sbc, .c => .sbcAC
  | .sbc, .d => .sbcAD
  | .sbc, .e => .sbcAE
  | .sbc, .h => .sbcAH
  | .sbc, .l => .sbcAL
  | .sbc, .a => .sbcAA
  | .and, .b => .andAB
  | .and, .c => .andAC
  | .and, .d => .andAD
  | .and, .e => .andAE
  | .and, .h => .andAH
  | .and, .l => .andAL
  | .and, .a => .andAA
  | .xor, .b => .xorAB
  | .xor, .c => .xorAC
  | .xor, .d => .xorAD
  | .xor, .e => .xorAE
  | .xor, .h => .xorAH
  | .xor, .l => .xorAL
  | .xor, .a => .xorAA
  | .or, .b => .orAB
  | .or, .c => .orAC
  | .or, .d => .orAD
  | .or, .e => .orAE
  | .or, .h => .orAH
  | .or, .l => .orAL
  | .or, .a => .orAA
  | .cp, .b => .cpAB
  | .cp, .c => .cpAC
  | .cp, .d => .cpAD
  | .cp, .e => .cpAE
  | .cp, .h => .cpAH
  | .cp, .l => .cpAL
  | .cp, .a => .cpAA

/-- The memory form of an 8-bit ALU operation (41_alu8.md R200). -/
def Instr.aluHl : AluOp → Instr
  | .add => .addAIndHl
  | .adc => .adcAIndHl
  | .sub => .subAIndHl
  | .sbc => .sbcAIndHl
  | .and => .andAIndHl
  | .xor => .xorAIndHl
  | .or => .orAIndHl
  | .cp => .cpAIndHl

/-- The immediate form of an 8-bit ALU operation (41_alu8.md R200). -/
def Instr.aluImm (n : Byte) : AluOp → Instr
  | .add => .addAN8 n
  | .adc => .adcAN8 n
  | .sub => .subAN8 n
  | .sbc => .sbcAN8 n
  | .and => .andAN8 n
  | .xor => .xorAN8 n
  | .or => .orAN8 n
  | .cp => .cpAN8 n

/-- `INC rr` (42_alu16.md R241). -/
def Instr.incPair : Pair → Instr
  | .bc => .incBc
  | .de => .incDe
  | .hl => .incHl
  | .sp => .incSp

/-- `DEC rr` (42_alu16.md R242). -/
def Instr.decPair : Pair → Instr
  | .bc => .decBc
  | .de => .decDe
  | .hl => .decHl
  | .sp => .decSp

/-- `ADD HL,rr` (42_alu16.md R243). -/
def Instr.addHlPair : Pair → Instr
  | .bc => .addHlBc
  | .de => .addHlDe
  | .hl => .addHlHl
  | .sp => .addHlSp

/-- The register form of a CB rotate or shift (43_rotate_shift_bit.md R266 to R280). -/
def Instr.rotReg : RotOp → Reg8 → Instr
  | .rlc, .b => .cbRlcB
  | .rlc, .c => .cbRlcC
  | .rlc, .d => .cbRlcD
  | .rlc, .e => .cbRlcE
  | .rlc, .h => .cbRlcH
  | .rlc, .l => .cbRlcL
  | .rlc, .a => .cbRlcA
  | .rrc, .b => .cbRrcB
  | .rrc, .c => .cbRrcC
  | .rrc, .d => .cbRrcD
  | .rrc, .e => .cbRrcE
  | .rrc, .h => .cbRrcH
  | .rrc, .l => .cbRrcL
  | .rrc, .a => .cbRrcA
  | .rl, .b => .cbRlB
  | .rl, .c => .cbRlC
  | .rl, .d => .cbRlD
  | .rl, .e => .cbRlE
  | .rl, .h => .cbRlH
  | .rl, .l => .cbRlL
  | .rl, .a => .cbRlA
  | .rr, .b => .cbRrB
  | .rr, .c => .cbRrC
  | .rr, .d => .cbRrD
  | .rr, .e => .cbRrE
  | .rr, .h => .cbRrH
  | .rr, .l => .cbRrL
  | .rr, .a => .cbRrA
  | .sla, .b => .cbSlaB
  | .sla, .c => .cbSlaC
  | .sla, .d => .cbSlaD
  | .sla, .e => .cbSlaE
  | .sla, .h => .cbSlaH
  | .sla, .l => .cbSlaL
  | .sla, .a => .cbSlaA
  | .sra, .b => .cbSraB
  | .sra, .c => .cbSraC
  | .sra, .d => .cbSraD
  | .sra, .e => .cbSraE
  | .sra, .h => .cbSraH
  | .sra, .l => .cbSraL
  | .sra, .a => .cbSraA
  | .swap, .b => .cbSwapB
  | .swap, .c => .cbSwapC
  | .swap, .d => .cbSwapD
  | .swap, .e => .cbSwapE
  | .swap, .h => .cbSwapH
  | .swap, .l => .cbSwapL
  | .swap, .a => .cbSwapA
  | .srl, .b => .cbSrlB
  | .srl, .c => .cbSrlC
  | .srl, .d => .cbSrlD
  | .srl, .e => .cbSrlE
  | .srl, .h => .cbSrlH
  | .srl, .l => .cbSrlL
  | .srl, .a => .cbSrlA

/-- The memory form of a CB rotate or shift (43_rotate_shift_bit.md R267 to R281). -/
def Instr.rotHl : RotOp → Instr
  | .rlc => .cbRlcIndHl
  | .rrc => .cbRrcIndHl
  | .rl => .cbRlIndHl
  | .rr => .cbRrIndHl
  | .sla => .cbSlaIndHl
  | .sra => .cbSraIndHl
  | .swap => .cbSwapIndHl
  | .srl => .cbSrlIndHl

/-- `BIT b,r8` (43_rotate_shift_bit.md R282). -/
def Instr.bitReg : Fin 8 → Reg8 → Instr
  | 0, .b => .bit0B
  | 0, .c => .bit0C
  | 0, .d => .bit0D
  | 0, .e => .bit0E
  | 0, .h => .bit0H
  | 0, .l => .bit0L
  | 0, .a => .bit0A
  | 1, .b => .bit1B
  | 1, .c => .bit1C
  | 1, .d => .bit1D
  | 1, .e => .bit1E
  | 1, .h => .bit1H
  | 1, .l => .bit1L
  | 1, .a => .bit1A
  | 2, .b => .bit2B
  | 2, .c => .bit2C
  | 2, .d => .bit2D
  | 2, .e => .bit2E
  | 2, .h => .bit2H
  | 2, .l => .bit2L
  | 2, .a => .bit2A
  | 3, .b => .bit3B
  | 3, .c => .bit3C
  | 3, .d => .bit3D
  | 3, .e => .bit3E
  | 3, .h => .bit3H
  | 3, .l => .bit3L
  | 3, .a => .bit3A
  | 4, .b => .bit4B
  | 4, .c => .bit4C
  | 4, .d => .bit4D
  | 4, .e => .bit4E
  | 4, .h => .bit4H
  | 4, .l => .bit4L
  | 4, .a => .bit4A
  | 5, .b => .bit5B
  | 5, .c => .bit5C
  | 5, .d => .bit5D
  | 5, .e => .bit5E
  | 5, .h => .bit5H
  | 5, .l => .bit5L
  | 5, .a => .bit5A
  | 6, .b => .bit6B
  | 6, .c => .bit6C
  | 6, .d => .bit6D
  | 6, .e => .bit6E
  | 6, .h => .bit6H
  | 6, .l => .bit6L
  | 6, .a => .bit6A
  | 7, .b => .bit7B
  | 7, .c => .bit7C
  | 7, .d => .bit7D
  | 7, .e => .bit7E
  | 7, .h => .bit7H
  | 7, .l => .bit7L
  | 7, .a => .bit7A

/-- `BIT b,[HL]` (43_rotate_shift_bit.md R283). -/
def Instr.bitHl : Fin 8 → Instr
  | 0 => .bit0IndHl
  | 1 => .bit1IndHl
  | 2 => .bit2IndHl
  | 3 => .bit3IndHl
  | 4 => .bit4IndHl
  | 5 => .bit5IndHl
  | 6 => .bit6IndHl
  | 7 => .bit7IndHl

/-- `RES b,r8` (43_rotate_shift_bit.md R284). -/
def Instr.resReg : Fin 8 → Reg8 → Instr
  | 0, .b => .res0B
  | 0, .c => .res0C
  | 0, .d => .res0D
  | 0, .e => .res0E
  | 0, .h => .res0H
  | 0, .l => .res0L
  | 0, .a => .res0A
  | 1, .b => .res1B
  | 1, .c => .res1C
  | 1, .d => .res1D
  | 1, .e => .res1E
  | 1, .h => .res1H
  | 1, .l => .res1L
  | 1, .a => .res1A
  | 2, .b => .res2B
  | 2, .c => .res2C
  | 2, .d => .res2D
  | 2, .e => .res2E
  | 2, .h => .res2H
  | 2, .l => .res2L
  | 2, .a => .res2A
  | 3, .b => .res3B
  | 3, .c => .res3C
  | 3, .d => .res3D
  | 3, .e => .res3E
  | 3, .h => .res3H
  | 3, .l => .res3L
  | 3, .a => .res3A
  | 4, .b => .res4B
  | 4, .c => .res4C
  | 4, .d => .res4D
  | 4, .e => .res4E
  | 4, .h => .res4H
  | 4, .l => .res4L
  | 4, .a => .res4A
  | 5, .b => .res5B
  | 5, .c => .res5C
  | 5, .d => .res5D
  | 5, .e => .res5E
  | 5, .h => .res5H
  | 5, .l => .res5L
  | 5, .a => .res5A
  | 6, .b => .res6B
  | 6, .c => .res6C
  | 6, .d => .res6D
  | 6, .e => .res6E
  | 6, .h => .res6H
  | 6, .l => .res6L
  | 6, .a => .res6A
  | 7, .b => .res7B
  | 7, .c => .res7C
  | 7, .d => .res7D
  | 7, .e => .res7E
  | 7, .h => .res7H
  | 7, .l => .res7L
  | 7, .a => .res7A

/-- `RES b,[HL]` (43_rotate_shift_bit.md R285). -/
def Instr.resHl : Fin 8 → Instr
  | 0 => .res0IndHl
  | 1 => .res1IndHl
  | 2 => .res2IndHl
  | 3 => .res3IndHl
  | 4 => .res4IndHl
  | 5 => .res5IndHl
  | 6 => .res6IndHl
  | 7 => .res7IndHl

/-- `SET b,r8` (43_rotate_shift_bit.md R286). -/
def Instr.setReg : Fin 8 → Reg8 → Instr
  | 0, .b => .set0B
  | 0, .c => .set0C
  | 0, .d => .set0D
  | 0, .e => .set0E
  | 0, .h => .set0H
  | 0, .l => .set0L
  | 0, .a => .set0A
  | 1, .b => .set1B
  | 1, .c => .set1C
  | 1, .d => .set1D
  | 1, .e => .set1E
  | 1, .h => .set1H
  | 1, .l => .set1L
  | 1, .a => .set1A
  | 2, .b => .set2B
  | 2, .c => .set2C
  | 2, .d => .set2D
  | 2, .e => .set2E
  | 2, .h => .set2H
  | 2, .l => .set2L
  | 2, .a => .set2A
  | 3, .b => .set3B
  | 3, .c => .set3C
  | 3, .d => .set3D
  | 3, .e => .set3E
  | 3, .h => .set3H
  | 3, .l => .set3L
  | 3, .a => .set3A
  | 4, .b => .set4B
  | 4, .c => .set4C
  | 4, .d => .set4D
  | 4, .e => .set4E
  | 4, .h => .set4H
  | 4, .l => .set4L
  | 4, .a => .set4A
  | 5, .b => .set5B
  | 5, .c => .set5C
  | 5, .d => .set5D
  | 5, .e => .set5E
  | 5, .h => .set5H
  | 5, .l => .set5L
  | 5, .a => .set5A
  | 6, .b => .set6B
  | 6, .c => .set6C
  | 6, .d => .set6D
  | 6, .e => .set6E
  | 6, .h => .set6H
  | 6, .l => .set6L
  | 6, .a => .set6A
  | 7, .b => .set7B
  | 7, .c => .set7C
  | 7, .d => .set7D
  | 7, .e => .set7E
  | 7, .h => .set7H
  | 7, .l => .set7L
  | 7, .a => .set7A

/-- `SET b,[HL]` (43_rotate_shift_bit.md R287). -/
def Instr.setHl : Fin 8 → Instr
  | 0 => .set0IndHl
  | 1 => .set1IndHl
  | 2 => .set2IndHl
  | 3 => .set3IndHl
  | 4 => .set4IndHl
  | 5 => .set5IndHl
  | 6 => .set6IndHl
  | 7 => .set7IndHl

/-- `JP cc,a16` (44_control.md R302). -/
def Instr.jpCond (a : Word) : Cond → Instr
  | .nz => .jpNzA16 a
  | .z => .jpZA16 a
  | .nc => .jpNcA16 a
  | .c => .jpCA16 a

/-- `JR cc,e8` (44_control.md R305). -/
def Instr.jrCond (e : Byte) : Cond → Instr
  | .nz => .jrNzE8 e
  | .z => .jrZE8 e
  | .nc => .jrNcE8 e
  | .c => .jrCE8 e

/-- `CALL cc,a16` (44_control.md R307). -/
def Instr.callCond (a : Word) : Cond → Instr
  | .nz => .callNzA16 a
  | .z => .callZA16 a
  | .nc => .callNcA16 a
  | .c => .callCA16 a

/-- `RET cc` (44_control.md R309). -/
def Instr.retCond : Cond → Instr
  | .nz => .retNz
  | .z => .retZ
  | .nc => .retNc
  | .c => .retC

/-- `RST 8*y` (44_control.md R311). -/
def Instr.restart : Fin 8 → Instr
  | 0 => .rst00
  | 1 => .rst08
  | 2 => .rst10
  | 3 => .rst18
  | 4 => .rst20
  | 5 => .rst28
  | 6 => .rst30
  | 7 => .rst38

/-- The eleven opcodes with no table entry (30_encoding.md R142). -/
def illegalOpcodes : List Byte :=
  [0xD3, 0xDB, 0xDD, 0xE3, 0xE4, 0xEB, 0xEC, 0xED, 0xF4, 0xFC, 0xFD]

/-! ## The table's numbering of an instruction's bits -/

/-- The bytes of an instruction whose bits spec/opcode_table.json numbers `w`, with zeros up to the
longest instruction. A row of 8 bits is the opcode. A row of 16 bits is `(0xCB << 8) | cbop`, "the
first byte in the high half" (30_encoding.md R152); any other word has its first byte in its low bits. -/
def tableBytes (nbits w : Nat) : Byte × Byte × Byte :=
  if nbits = 16 ∧ w / 256 % 256 = 0xCB then (0xCB, BitVec.ofNat 8 w, 0)
  else (BitVec.ofNat 8 w, BitVec.ofNat 8 (w / 256), BitVec.ofNat 8 (w / 65536))

/-- What the decoder reads from the instruction whose bits the table numbers `w`. -/
def decodeTableWord (nbits w : Nat) : Option Instr :=
  match decode [(tableBytes nbits w).1, (tableBytes nbits w).2.1, (tableBytes nbits w).2.2] with
  | .ok (i, _) => some i
  | .error _ => none

end Sys2Proof
end

