-- ==== Sys2Proof/Machine/State.lean ====
section
/-! DEFINITION. The machine's state, all of it plain data (10_state.md, 20_memory.md section 5), its
reasons to stop, and the state after reset (10_state.md R49, column PostBoot). -/

namespace Sys2Proof.Machine

/-! ## Why a step stops -/

/-- The reason of `Unmodelled(reason, pc)` (60_exceptions.md R382). -/
inductive UnmodelledReason where
  /-- STOP with STOP_MODE = Fault (45_system.md R332). -/
  | stop
  /-- An access to 0xA000-0xBFFF on an MBC3 with RAM enabled and `ramsel >= 4` (20_memory.md R112). -/
  | mbc3Select (ramsel : Byte)
  deriving DecidableEq, Repr

/-- The fault records of the spec (60_exceptions.md R380). -/
inductive FaultRecord where
  /-- An illegal opcode and the address it was fetched from (60_exceptions.md R381). -/
  | decodeError (opcode : Byte) (pc : Word)
  /-- STOP in its Fault mode, or an access an MBC3 refuses (60_exceptions.md R382). -/
  | unmodelled (reason : UnmodelledReason) (pc : Word)
  deriving DecidableEq, Repr

/-- Why the model has no meaning to give. No step of this model is refused. -/
inductive Refusal where
  /-- Raised only by an arm of `exec` whose instruction has no meaning yet; there is none left. Safe. -/
  | notModelled (mnemonic : String)
  deriving DecidableEq, Repr

/-! ## Sparse data -/

/-- Values by key, in one canonical form: keys strictly rising, no value zero. A key that is not listed
holds zero. -/
abbrev Cells (w : Nat) := List (Nat × BitVec w)

/-- Bytes by address: a list of `Host.Cell`. -/
abbrev Memory := List Host.Cell

/-! ## The parts of the state -/

/-- The CPU: register file and control state (10_state.md R20 to R31). -/
structure Cpu where
  a : Byte
  /-- The flags in bits 7 to 4, zeros below (R23, R24). -/
  f : Byte
  b : Byte
  c : Byte
  d : Byte
  e : Byte
  h : Byte
  l : Byte
  sp : Word
  pc : Word
  /-- Interrupt master enable (R28). -/
  ime : Bool
  /-- An EI has executed and has not yet taken effect (R29). -/
  imeScheduled : Bool
  halted : Bool
  /-- The next opcode fetch does not advance PC (R31). -/
  haltBug : Bool
  /-- `pc0`: the address of the opcode of the step under way, the pc a fault it raises records
  (60_exceptions.md R354). The model's own field. -/
  opPc : Word
  /-- The cycle count the last step returned (60_exceptions.md R350). The model's own field: the spec's
  step returns the count beside the state. -/
  cycles : Nat
  deriving DecidableEq, Repr

/-- The host's `joypad` function: the key nibble for each value of the select bits P1[5:4], 0 for a
pressed key (10_state.md R36). -/
structure Joypad where
  sel0 : BitVec 4
  sel1 : BitVec 4
  sel2 : BitVec 4
  sel3 : BitVec 4
  deriving DecidableEq, Repr

/-- The registers the MMU owns (10_state.md R33 to R36, R43, R45), and the joypad input. -/
structure Io where
  /-- IE at 0xFFFF. -/
  ie : Byte
  /-- IF at 0xFF0F, as stored. -/
  ifl : Byte
  /-- Bits 5-4 of P1 at 0xFF00, as stored. -/
  p1 : BitVec 2
  joypad : Joypad
  sb : Byte
  sc : Byte
  /-- The last value written to DMA at 0xFF46. -/
  dma : Byte
  /-- BOOT at 0xFF50, as stored. -/
  boot : Byte
  /-- The boot image covers 0x0000-0x00FF. -/
  bootEnabled : Bool
  deriving DecidableEq, Repr

/-- The timer (10_state.md R37 to R39, R48). -/
structure Timer where
  divCounter : Word
  timaAcc : Nat
  tima : Byte
  tma : Byte
  tac : Byte
  deriving DecidableEq, Repr

/-- The modes of the PPU (10_state.md R47). -/
inductive PpuMode where
  | oamScan | pixelTransfer | hBlank | vBlank
  deriving DecidableEq, Repr

/-- The PPU (10_state.md R40 to R42, R44, R47). -/
structure Ppu where
  lcdc : Byte
  /-- STAT bits 6-3, in place. -/
  statEnables : Byte
  scy : Byte
  scx : Byte
  ly : Byte
  lyc : Byte
  bgp : Byte
  obp0 : Byte
  obp1 : Byte
  wy : Byte
  wx : Byte
  mode : PpuMode
  modeclock : Nat
  coincidence : Bool
  frameReady : Bool
  /-- The framebuffer: the shade of column `x` of row `y` at key `160 * y + x`. -/
  frame : Cells 2
  deriving DecidableEq, Repr

/-- A bank controller and its registers (20_memory.md sections 5.1 to 5.5). -/
inductive Mbc where
  | romOnly
  | mbc1 (ramEnable : Bool) (bank1 : BitVec 5) (bank2 : BitVec 2) (mode : Bool)
  | mbc2 (ramEnable : Bool) (rombank : BitVec 4)
  | mbc3 (ramEnable : Bool) (rombank : BitVec 7) (ramsel : Byte)
  | mbc5 (ramEnable : Bool) (rombank : BitVec 9) (rambank : BitVec 4)
  deriving DecidableEq, Repr

/-- The cartridge: its controller, its ROM image and its RAM (10_state.md R46, 20_memory.md R80 to R82). -/
structure Cart where
  mbc : Mbc
  /-- `MBC5_REMAP_ZERO` (00_scope.md R7). -/
  remapZero : Bool
  romBankCount : Nat
  /-- The length of `rom_bytes`. -/
  romSize : Nat
  /-- `rom_bytes`, by index; no step writes it. -/
  rom : Memory
  ramBankCount : Nat
  /-- The length of the external RAM buffer, which the spec does not give: a number of its own, whatever the
  bank count (20_memory.md R82). DESIGN CHOICE (log entry 17), safe. -/
  ramSize : Nat
  /-- The external RAM buffer, by index. -/
  ram : Memory
  /-- MBC2's built-in RAM: 512 entries of 4 bits. -/
  ram4 : Cells 4
  deriving DecidableEq, Repr

/-- The launch parameters no other part holds (00_scope.md R7); no step changes them. -/
structure Params where
  /-- `EI_DELAY` is 1. -/
  eiDelay : Bool
  stopMode : Config.StopMode
  endPc : Word
  /-- The 256 bytes of `BootRom(image)`. -/
  bootImage : Memory
  deriving DecidableEq, Repr

/-- The whole machine. `mem` is the MMU's flat array by address: VRAM, WRAM, OAM, the unusable region,
the I/O addresses 10_state.md R35 does not name, and HRAM (20_memory.md R50, R51). -/
structure State where
  cpu : Cpu
  io : Io
  timer : Timer
  ppu : Ppu
  cart : Cart
  mem : Memory
  params : Params
  /-- `None`, or the record of the fault that stopped the machine (10_state.md R32). -/
  fault : Option FaultRecord
  deriving DecidableEq, Repr

/-- `Faulted(record)`, the answer of a step that faults, with the faulted state it leaves: the record in its
`fault` field, and everything the step did before the raise (60_exceptions.md R380). -/
inductive Fault where
  /-- Raised by the eleven illegal opcodes, and by every step of a machine whose `fault` field holds the
  record (60_exceptions.md R380, R381). Safe: the spec's own outcome. -/
  | decodeError (opcode : Byte) (pc : Word) (left : State)
  /-- Raised by STOP in its Fault mode and by an access an MBC3 refuses, and by every step of a machine
  whose `fault` field holds the record (60_exceptions.md R380, R382). Safe: the spec's own outcome. -/
  | unmodelled (reason : UnmodelledReason) (pc : Word) (left : State)
  deriving DecidableEq, Repr

/-! ## Reset -/

/-- No key pressed (10_state.md R36). -/
def Joypad.released : Joypad := { sel0 := 0xF, sel1 := 0xF, sel2 := 0xF, sel3 := 0xF }

/-- The PostBoot CPU (10_state.md R49, 70_reset_and_hazards.md R452). -/
def Cpu.reset : Cpu :=
  { a := 0x01, f := 0xB0, b := 0x00, c := 0x13, d := 0x00, e := 0xD8, h := 0x01, l := 0x4D
    sp := 0xFFFE, pc := 0x0100
    ime := false, imeScheduled := false, halted := false, haltBug := false
    opPc := 0x0100, cycles := 0 }

/-- The PostBoot MMU registers (10_state.md R49). -/
def Io.reset : Io :=
  { ie := 0x00, ifl := 0x01, p1 := 0, joypad := Joypad.released, sb := 0x00, sc := 0x7E
    dma := 0xFF, boot := 0x01, bootEnabled := false }

/-- The PostBoot timer (10_state.md R49). -/
def Timer.reset : Timer :=
  { divCounter := 0xAB00, timaAcc := 0, tima := 0x00, tma := 0x00, tac := 0x00 }

/-- The PostBoot PPU (10_state.md R49). -/
def Ppu.reset : Ppu :=
  { lcdc := 0x91, statEnables := 0x00, scy := 0x00, scx := 0x00, ly := 0, lyc := 0x00
    bgp := 0xFC, obp0 := 0xFF, obp1 := 0xFF, wy := 0x00, wx := 0x00
    mode := .oamScan, modeclock := 0, coincidence := true, frameReady := false, frame := [] }

/-- The cartridge of the reset state, a launch parameter: no controller, 32 KiB of ROM, no RAM.
DESIGN CHOICE (log entry 3), unsafe. -/
def Cart.reset : Cart :=
  { mbc := .romOnly, remapZero := true, romBankCount := 2, romSize := 0x8000, rom := []
    ramBankCount := 0, ramSize := 0, ram := [], ram4 := [] }

/-- The defaults of 00_scope.md R7. -/
def Params.reset : Params :=
  { eiDelay := true, stopMode := .fault, endPc := 0x0000, bootImage := [] }

/-- The machine after reset: a PostBoot launch with no memory listed, so every draw is zero
(70_reset_and_hazards.md R450, R452). DESIGN CHOICE (log entries 1, 2 and 3), unsafe. -/
def State.reset : State :=
  { cpu := Cpu.reset, io := Io.reset, timer := Timer.reset, ppu := Ppu.reset, cart := Cart.reset
    mem := [], params := Params.reset, fault := none }

end Sys2Proof.Machine
end

