-- ==== Sys2Proof/Machine/Flags.lean ====
section
/-! DEFINITION. Arithmetic and the flags it computes: exact on natural numbers, then truncated
(41_alu8.md R201, 42_alu16.md R240, R243, 43_rotate_shift_bit.md R260, 41_alu8.md R230). -/

namespace Sys2Proof.Machine

/-- A truncated result with its half carry (or half borrow) and its carry (or borrow). -/
structure Arith (w : Nat) where
  value : BitVec w
  half : Bool
  carry : Bool
  deriving DecidableEq, Repr

/-- `sext_16` of a byte (00_scope.md R10). -/
def sext16 (v : Byte) : Word := v.signExtend 16

/-- `zext_16` of a byte (00_scope.md R10). -/
def zext16 (v : Byte) : Word := v.setWidth 16

/-- A flag as a number, 0 or 1. -/
def bit (b : Bool) : Nat := if b then 1 else 0

/-- `Add8(a, b, cin)` (41_alu8.md R201). -/
def add8 (a b : Byte) (cin : Bool) : Arith 8 :=
  { value := BitVec.ofNat 8 (a.toNat + b.toNat + bit cin)
    half := decide (a.toNat % 16 + b.toNat % 16 + bit cin > 0x0F)
    carry := decide (a.toNat + b.toNat + bit cin > 0xFF) }

/-- `Sub8(a, b, cin)` (41_alu8.md R201). The difference mod 2^8 is taken from `a + 2^9`, so that the
natural numbers do not run out. -/
def sub8 (a b : Byte) (cin : Bool) : Arith 8 :=
  { value := BitVec.ofNat 8 (a.toNat + 512 - (b.toNat + bit cin))
    half := decide (a.toNat % 16 < b.toNat % 16 + bit cin)
    carry := decide (a.toNat < b.toNat + bit cin) }

/-- The sum of `ADD HL,rr`, with the carries out of bits 11 and 15 (42_alu16.md R243). -/
def add16 (a b : Word) : Arith 16 :=
  { value := a + b
    half := decide (a.toNat % 4096 + b.toNat % 4096 > 0x0FFF)
    carry := decide (a.toNat + b.toNat > 0xFFFF) }

/-- `SpPlusE8(sp, e)` (42_alu16.md R240). -/
def spPlusE8 (sp : Word) (e : Byte) : Arith 16 :=
  { value := sp + sext16 e
    half := decide (sp.toNat % 16 + e.toNat % 16 > 0x0F)
    carry := decide (sp.toNat % 256 + e.toNat > 0xFF) }

/-- `(r, cout)` of a rotate or shift of `v` with incoming carry `cin`, by the table of
43_rotate_shift_bit.md R260. -/
def rotate (op : RotOp) (v : Byte) (cin : Bool) : Byte × Bool :=
  match op with
  | .rlc => ((v <<< 1) ||| (v >>> 7), v.getLsbD 7)
  | .rrc => ((v >>> 1) ||| (v <<< 7), v.getLsbD 0)
  | .rl => ((v <<< 1) ||| BitVec.ofNat 8 (bit cin), v.getLsbD 7)
  | .rr => ((v >>> 1) ||| BitVec.ofNat 8 (bit cin * 128), v.getLsbD 0)
  | .sla => (v <<< 1, v.getLsbD 7)
  | .sra => ((v >>> 1) ||| (v &&& 0x80), v.getLsbD 0)
  | .swap => ((v <<< 4) ||| (v >>> 4), false)
  | .srl => (v >>> 1, v.getLsbD 0)

/-- A byte with bit `b` cleared (43_rotate_shift_bit.md R284). -/
def clearBit (v : Byte) (b : Fin 8) : Byte := v &&& ~~~((1#8) <<< b.val)

/-- A byte with bit `b` set (43_rotate_shift_bit.md R286). -/
def putBit (v : Byte) (b : Fin 8) : Byte := v ||| ((1#8) <<< b.val)

/-- What DAA adds to or takes from A, and the C it leaves (41_alu8.md R230). The second test of the
N = 0 branch reads the low nibble the first adjustment leaves as it was. -/
def daa (a : Byte) (n h c : Bool) : Byte × Bool :=
  if n then (a - (if c then 0x60 else 0) - (if h then 0x06 else 0), c)
  else
    let high := c || decide (a.toNat > 0x99)
    let low := h || decide (a.toNat % 16 > 0x09)
    (a + (if high then 0x60 else 0) + (if low then 0x06 else 0), high)

end Sys2Proof.Machine
end

