-- ==== Sys2Proof/Machine/Cells.lean ====
section
/-! DEFINITION. Reading and writing sparse data in its canonical form. What an unlisted key holds is
said here and nowhere else: zero (log entry 2). -/

namespace Sys2Proof.Machine

variable {w : Nat}

/-- What an unlisted key holds. For memory the spec leaves it a draw of the launch (10_state.md R49).
DESIGN CHOICE (log entry 2), unsafe. -/
def Cells.unlisted (w : Nat) : BitVec w := 0#w

/-- The value at a key: the first entry listed for it, else what an unlisted key holds. -/
def Cells.get : Cells w → Nat → BitVec w
  | [], _ => Cells.unlisted w
  | (k, v) :: rest, a => if k = a then v else Cells.get rest a

/-- Drop every entry for a key. -/
def Cells.erase : Cells w → Nat → Cells w
  | [], _ => []
  | (k, v) :: rest, a => if k = a then Cells.erase rest a else (k, v) :: Cells.erase rest a

/-- Put an entry before the first key above its own. -/
def Cells.insert : Cells w → Nat → BitVec w → Cells w
  | [], a, x => [(a, x)]
  | (k, v) :: rest, a, x =>
    if a < k then (a, x) :: (k, v) :: rest else (k, v) :: Cells.insert rest a x

/-- Write a value at a key; the value an unlisted key holds removes the entry. -/
def Cells.set (m : Cells w) (a : Nat) (x : BitVec w) : Cells w :=
  if x = Cells.unlisted w then m.erase a else (m.erase a).insert a x

/-- The canonical form: keys strictly rising, no value an unlisted key holds. -/
def Cells.wf : Cells w → Bool
  | [] => true
  | (k, v) :: rest => v != Cells.unlisted w && rest.all (fun e => k < e.1) && Cells.wf rest

/-- The canonical form of a memory. -/
def Memory.wf (m : Memory) : Bool := Cells.wf (w := 8) m

/-- The byte a memory holds at an index. -/
def Memory.read (m : Memory) (a : Nat) : Byte := Cells.get (w := 8) m a

/-- Write a byte of a memory. -/
def Memory.write (m : Memory) (a : Nat) (v : Byte) : Memory := Cells.set (w := 8) m a v

end Sys2Proof.Machine
end

