-- ==== Sys2Proof/Machine/Cart.lean ====
section
/-! DEFINITION. The cartridge bank controllers (20_memory.md section 5). -/

namespace Sys2Proof.Machine

/-! ## ROM -/

/-- The byte of the ROM image at an index, 0xFF beyond its end (20_memory.md R81). -/
def Cart.romByte (c : Cart) (i : Nat) : Byte :=
  if i < c.romSize then c.rom.read i else Config.openBus

/-- The byte of ROM bank `b` at window offset `o`, the bank reduced by the declared count
(20_memory.md R81). -/
def Cart.romBankByte (c : Cart) (b o : Nat) : Byte :=
  c.romByte (b % c.romBankCount * Config.romBankSize + o)

/-- The bank the switchable window shows, before the reduction by the bank count: MBC1 R96, MBC2 R102,
MBC3 R113, MBC5 R117 (20_memory.md). Without a controller the window is the image's second bank (R85). -/
def Cart.windowBank (c : Cart) : Nat :=
  match c.mbc with
  | .romOnly => 1
  | .mbc1 _ bank1 bank2 mode => if mode then bank1.toNat else bank2.toNat * 32 + bank1.toNat
  | .mbc2 _ rombank => rombank.toNat
  | .mbc3 _ rombank _ => rombank.toNat
  | .mbc5 _ rombank _ => if c.remapZero && rombank == 0 then 1 else rombank.toNat

/-- A read of 0x0000-0x7FFF: without a controller `rom_bytes[a]` (20_memory.md R85); with one, bank 0
below 0x4000 and the window's bank above (R95, R96, R102, R113, R117). -/
def Cart.romRead (c : Cart) (a : Nat) : Byte :=
  match c.mbc with
  | .romOnly => c.romByte a
  | _ =>
    if a < Config.romBankSize then c.romBankByte 0 a
    else c.romBankByte c.windowBank (a - Config.romBankSize)

/-! ## Bank control -/

/-- `ram_enable` after a write to the enable range (20_memory.md R83). -/
def ramEnableOf (v : Byte) : Bool := v &&& 0x0F == 0x0A

/-- "Remap 0→1" of a written bank register (20_memory.md R92, R101, R111). -/
def remapZeroBank {w : Nat} (b : BitVec w) : BitVec w := if b = 0#w then 1#w else b

/-- A write of `v` to address `a` in 0x0000-0x7FFF: none R85; MBC1 R91 to R94; MBC2 R101; MBC3 R111;
MBC5 R116 (20_memory.md). -/
def Mbc.control (m : Mbc) (a : Nat) (v : Byte) : Mbc :=
  match m with
  | .romOnly => .romOnly
  | .mbc1 en bank1 bank2 mode =>
    if a < 0x2000 then .mbc1 (ramEnableOf v) bank1 bank2 mode
    else if a < 0x4000 then .mbc1 en (remapZeroBank (v.setWidth 5)) bank2 mode
    else if a < 0x6000 then .mbc1 en bank1 (v.setWidth 2) mode
    else .mbc1 en bank1 bank2 (v.getLsbD 0)
  | .mbc2 en rombank =>
    if a < 0x2000 then .mbc2 (ramEnableOf v) rombank
    else if a < 0x4000 then .mbc2 en (remapZeroBank (v.setWidth 4))
    else .mbc2 en rombank
  | .mbc3 en rombank ramsel =>
    if a < 0x2000 then .mbc3 (ramEnableOf v) rombank ramsel
    else if a < 0x4000 then .mbc3 en (remapZeroBank (v.setWidth 7)) ramsel
    else if a < 0x6000 then .mbc3 en rombank v
    else .mbc3 en rombank ramsel
  | .mbc5 en rombank rambank =>
    if a < 0x2000 then .mbc5 (ramEnableOf v) rombank rambank
    else if a < 0x3000 then .mbc5 en (rombank.extractLsb' 8 1 ++ v) rambank
    else if a < 0x4000 then .mbc5 en (v.extractLsb' 0 1 ++ rombank.extractLsb' 0 8) rambank
    else if a < 0x6000 then .mbc5 en rombank (v.setWidth 4)
    else .mbc5 en rombank rambank

/-- A bank-control write on the cartridge. -/
def Cart.control (c : Cart) (a : Nat) (v : Byte) : Cart := { c with mbc := c.mbc.control a v }

/-! ## External RAM -/

/-- The bank an access to 0xA000-0xBFFF uses: `none` where RAM is not enabled, an error where the MBC3
refuses the access. None R86; MBC1 R97; MBC3 R112; MBC5 R118 (20_memory.md). MBC2's RAM has no banks
(R103), so its line only says whether it is enabled. -/
def Mbc.ramBank : Mbc → Except UnmodelledReason (Option Nat)
  | .romOnly => .ok (some 0)
  | .mbc1 en _ bank2 mode => .ok (if en then some (if mode then bank2.toNat else 0) else none)
  | .mbc2 en _ => .ok (if en then some 0 else none)
  | .mbc3 en _ ramsel =>
    if !en then .ok none
    else if ramsel.toNat ≤ 0x03 then .ok (some ramsel.toNat)
    else .error (.mbc3Select ramsel)
  | .mbc5 en _ rambank => .ok (if en then some rambank.toNat else none)

/-- Where in the RAM buffer an access of bank `rb` at address `a` goes: nowhere when there is no RAM or
the index is beyond the buffer (20_memory.md R82). How long the buffer is the spec leaves open: `ramSize`, a
number of its own. DESIGN CHOICE (log entry 17), safe. -/
def Cart.ramIndex (c : Cart) (rb a : Nat) : Option Nat :=
  if c.ramBankCount = 0 then none
  else
    let i := rb % c.ramBankCount * Config.ramBankSize + (a - 0xA000)
    if i < c.ramSize then some i else none

/-- The entry of MBC2's built-in RAM at address `a`: the 512 entries repeat (20_memory.md R103). -/
def ram4Index (a : Nat) : Nat := (a - 0xA000) % 512

/-- The controller holds MBC2's built-in RAM. -/
def Mbc.hasRam4 : Mbc → Bool
  | .mbc2 _ _ => true
  | _ => false

/-- A read of address `a` in 0xA000-0xBFFF (20_memory.md R82, R103, R112). -/
def Cart.ramRead (c : Cart) (a : Nat) : Except UnmodelledReason Byte :=
  match c.mbc.ramBank with
  | .error r => .error r
  | .ok none => .ok Config.openBus
  | .ok (some rb) =>
    if c.mbc.hasRam4 then .ok (0xF0 ||| (c.ram4.get (ram4Index a)).setWidth 8)
    else
      match c.ramIndex rb a with
      | some i => .ok (c.ram.read i)
      | none => .ok Config.openBus

/-- A write of `v` to address `a` in 0xA000-0xBFFF (20_memory.md R82, R103, R112). -/
def Cart.ramWrite (c : Cart) (a : Nat) (v : Byte) : Except UnmodelledReason Cart :=
  match c.mbc.ramBank with
  | .error r => .error r
  | .ok none => .ok c
  | .ok (some rb) =>
    if c.mbc.hasRam4 then .ok { c with ram4 := c.ram4.set (ram4Index a) (v.setWidth 4) }
    else
      match c.ramIndex rb a with
      | some i => .ok { c with ram := c.ram.write i v }
      | none => .ok c

end Sys2Proof.Machine
end

