-- ==== Sys2Proof/Machine/Ops.lean ====
section
/-! DEFINITION. The named operations over registers and memory: register access, the I/O registers, the
MMU's routing, the stack, the interrupt check, taking an interrupt and returning from one. -/

namespace Sys2Proof.Machine

/-- What a step, and the meaning of an instruction, answers. -/
abbrev Result := Host.Outcome State Fault Refusal

/-- `raise record` in state `s`: the faulted state is `s`, with all that was done before the raise, and the
record in its `fault` field (00_scope.md R14, 60_exceptions.md R380). -/
def State.stop (s : State) (r : FaultRecord) : Fault :=
  match r with
  | .decodeError op pc => .decodeError op pc { s with fault := some (.decodeError op pc) }
  | .unmodelled reason pc => .unmodelled reason pc { s with fault := some (.unmodelled reason pc) }

/-- The record of a fault (60_exceptions.md R380). -/
def Fault.record : Fault → FaultRecord
  | .decodeError op pc _ => .decodeError op pc
  | .unmodelled reason pc _ => .unmodelled reason pc

/-- The faulted state a fault leaves (60_exceptions.md R380). -/
def Fault.left : Fault → State
  | .decodeError _ _ t => t
  | .unmodelled _ _ t => t

/-- Go on with the value of an access, or stop with the fault it raised (00_scope.md R14: nothing after
the raise is performed). -/
def andThen {α : Type} (x : Except Fault α) (k : α → Result) : Result :=
  match x with
  | .ok a => k a
  | .error r => .fault r

/-! ## Registers (10_state.md R20 to R31) -/

/-- `R[x]` of an 8-bit register. -/
def State.reg (s : State) : Reg8 → Byte
  | .b => s.cpu.b
  | .c => s.cpu.c
  | .d => s.cpu.d
  | .e => s.cpu.e
  | .h => s.cpu.h
  | .l => s.cpu.l
  | .a => s.cpu.a

/-- `R[x] <- v` of an 8-bit register of the CPU. -/
def Cpu.setReg (c : Cpu) (r : Reg8) (v : Byte) : Cpu :=
  match r with
  | .b => { c with b := v }
  | .c => { c with c := v }
  | .d => { c with d := v }
  | .e => { c with e := v }
  | .h => { c with h := v }
  | .l => { c with l := v }
  | .a => { c with a := v }

/-- `R[x] <- v` of an 8-bit register. -/
def State.setReg (s : State) (r : Reg8) (v : Byte) : State := { s with cpu := s.cpu.setReg r v }

/-- `R[F] <- v`: the low nibble is "always masked to 0 after any write" (10_state.md R23). -/
def State.setF (s : State) (v : Byte) : State := { s with cpu := { s.cpu with f := v &&& 0xF0 } }

/-- `R[SP] <- v`. -/
def State.setSp (s : State) (v : Word) : State := { s with cpu := { s.cpu with sp := v } }

/-- `R[PC] <- v`. -/
def State.setPc (s : State) (v : Word) : State := { s with cpu := { s.cpu with pc := v } }

/-- `IME <- v; ime_scheduled <- w`. -/
def State.setIme (s : State) (v w : Bool) : State :=
  { s with cpu := { s.cpu with ime := v, imeScheduled := w } }

/-- `halted <- v`. -/
def State.setHalted (s : State) (v : Bool) : State := { s with cpu := { s.cpu with halted := v } }

/-- `halt_bug <- v`. -/
def State.setHaltBug (s : State) (v : Bool) : State := { s with cpu := { s.cpu with haltBug := v } }

/-- Note the pc that a fault raised from here on records (60_exceptions.md R354, R382). -/
def State.setOpPc (s : State) (v : Word) : State := { s with cpu := { s.cpu with opPc := v } }

/-- `cycles <- n` (00_scope.md R14). -/
def State.setCycles (s : State) (n : Nat) : State := { s with cpu := { s.cpu with cycles := n } }

/-- The instruction ends here, with its cycle count. -/
def done (n : Nat) (s : State) : Result := .next (s.setCycles n)

/-- `R[rr]` of a pair of the rr table (10_state.md R22). -/
def State.pair (s : State) : Pair → Word
  | .bc => word16 s.cpu.b s.cpu.c
  | .de => word16 s.cpu.d s.cpu.e
  | .hl => word16 s.cpu.h s.cpu.l
  | .sp => s.cpu.sp

/-- `R[rr] <- v` of a pair of the rr table (10_state.md R22). -/
def State.setPair (s : State) (p : Pair) (v : Word) : State :=
  match p with
  | .bc => (s.setReg .b (hiByte v)).setReg .c (loByte v)
  | .de => (s.setReg .d (hiByte v)).setReg .e (loByte v)
  | .hl => (s.setReg .h (hiByte v)).setReg .l (loByte v)
  | .sp => s.setSp v

/-- `R[HL]`. -/
def State.hl (s : State) : Word := s.pair .hl

/-- `R[rr]` of a pair of the rr2 table (10_state.md R22). -/
def State.stackPair (s : State) : StackPair → Word
  | .bc => s.pair .bc
  | .de => s.pair .de
  | .hl => s.pair .hl
  | .af => word16 s.cpu.a s.cpu.f

/-- `R[rr] <- v` of a pair of the rr2 table; F is masked (10_state.md R22, R23). -/
def State.setStackPair (s : State) (p : StackPair) (v : Word) : State :=
  match p with
  | .bc => s.setPair .bc v
  | .de => s.setPair .de v
  | .hl => s.setPair .hl v
  | .af => (s.setReg .a (hiByte v)).setF (loByte v)

/-! ## Interrupt registers (10_state.md R33, R34) -/

/-- `IF[i] <- 1`. -/
def State.raise (s : State) (i : Fin 8) : State :=
  { s with io := { s.io with ifl := s.io.ifl ||| ((1#8) <<< i.val) } }

/-- `IF <- IF & ~(1 << i)`. -/
def State.acknowledge (s : State) (i : Fin 8) : State :=
  { s with io := { s.io with ifl := s.io.ifl &&& ~~~((1#8) <<< i.val) } }

/-- `pending = IE & IF & 0x1F` (60_exceptions.md R352). -/
def State.pending (s : State) : Byte := s.io.ie &&& s.io.ifl &&& 0x1F

/-! ## The flat array -/

/-- The byte of the flat array at an address. -/
def State.array (s : State) (a : Nat) : Byte := s.mem.read a

/-- Write a byte of the flat array. -/
def State.setArray (s : State) (a : Nat) (v : Byte) : State := { s with mem := s.mem.write a v }

/-! ## I/O registers (10_state.md R35) -/

/-- The joypad function at a value of the select bits (10_state.md R36). -/
def Joypad.keys (j : Joypad) (select : BitVec 2) : BitVec 4 :=
  match select.toNat with
  | 0 => j.sel0
  | 1 => j.sel1
  | 2 => j.sel2
  | _ => j.sel3

/-- A read of P1 (10_state.md R36). -/
def Io.readP1 (io : Io) : Byte := 0b11#2 ++ io.p1 ++ io.joypad.keys io.p1

/-- The number STAT gives a mode (10_state.md R41). -/
def PpuMode.number : PpuMode → BitVec 2
  | .hBlank => 0
  | .vBlank => 1
  | .oamScan => 2
  | .pixelTransfer => 3

/-- LCDC bit 7. -/
def Ppu.lcdOn (p : Ppu) : Bool := p.lcdc.getLsbD 7

/-- A read of STAT (10_state.md R41, 60_exceptions.md R407). -/
def Ppu.readStat (p : Ppu) : Byte :=
  0x80 ||| (p.statEnables &&& 0x78) ||| (if p.coincidence then 0x04 else 0x00)
    ||| (if p.lcdOn then p.mode.number.setWidth 8 else 0)

/-- `IoRead(a)` (10_state.md R35, 20_memory.md R66). -/
def State.ioRead (s : State) (a : Nat) : Byte :=
  match a with
  | 0xFF00 => s.io.readP1
  | 0xFF01 => s.io.sb
  | 0xFF02 => s.io.sc
  | 0xFF04 => hiByte s.timer.divCounter
  | 0xFF05 => s.timer.tima
  | 0xFF06 => s.timer.tma
  | 0xFF07 => s.timer.tac ||| 0xF8
  | 0xFF0F => s.io.ifl ||| 0xE0
  | 0xFF40 => s.ppu.lcdc
  | 0xFF41 => s.ppu.readStat
  | 0xFF42 => s.ppu.scy
  | 0xFF43 => s.ppu.scx
  | 0xFF44 => s.ppu.ly
  | 0xFF45 => s.ppu.lyc
  | 0xFF46 => s.io.dma
  | 0xFF47 => s.ppu.bgp
  | 0xFF48 => s.ppu.obp0
  | 0xFF49 => s.ppu.obp1
  | 0xFF4A => s.ppu.wy
  | 0xFF4B => s.ppu.wx
  | 0xFF50 => s.io.boot
  | _ => s.array a

/-! ## Reading memory -/

/-- A read or write of the cartridge that the controller refuses raises `Unmodelled` with the pc of the
step under way (20_memory.md R112, 60_exceptions.md R382). -/
def State.orRaise {α : Type} (s : State) (x : Except UnmodelledReason α) : Except FaultRecord α :=
  match x with
  | .ok v => .ok v
  | .error r => .error (.unmodelled r s.cpu.opPc)

/-- `MemRead(a, 1)` (20_memory.md R56): the byte, or the record of the refusal; a read changes nothing. -/
def State.memRead (s : State) (a : Word) : Except FaultRecord Byte :=
  if s.io.bootEnabled && decide (a.toNat ≤ 0x00FF) then .ok (s.params.bootImage.read a.toNat)
  else if a.toNat ≤ 0x7FFF then .ok (s.cart.romRead a.toNat)
  else if a.toNat ≤ 0x9FFF then .ok (s.array a.toNat)
  else if a.toNat ≤ 0xBFFF then s.orRaise (s.cart.ramRead a.toNat)
  else if a.toNat ≤ 0xDFFF then .ok (s.array a.toNat)
  else if a.toNat ≤ 0xFDFF then .ok (s.array (a.toNat - 0x2000))
  else if a.toNat ≤ 0xFEFF then .ok (s.array a.toNat)
  else if a.toNat ≤ 0xFF7F then .ok (s.ioRead a.toNat)
  else if a.toNat ≤ 0xFFFE then .ok (s.array a.toNat)
  else .ok s.io.ie

/-! ## Writing memory -/

/-- A write of LCDC: a change of bit 7 resets the PPU (60_exceptions.md R409). -/
def Ppu.writeLcdc (p : Ppu) (v : Byte) : Ppu :=
  if p.lcdOn == v.getLsbD 7 then { p with lcdc := v }
  else if v.getLsbD 7 then { p with lcdc := v, mode := .oamScan, ly := 0, modeclock := 0 }
  else { p with lcdc := v, mode := .hBlank, ly := 0, modeclock := 0 }

/-- A write of BOOT: a nonzero value ends the overlay for good (10_state.md R45). -/
def Io.writeBoot (io : Io) (v : Byte) : Io :=
  { io with boot := v, bootEnabled := if v = 0 then io.bootEnabled else false }

/-- The last `n` bytes of the OAM DMA copy from `base` (20_memory.md R64); where a read is refused, the bytes
copied before it stay (60_exceptions.md R380). -/
def State.dmaCopy (base : Word) : Nat → State → Except Fault State
  | 0, s => .ok s
  | n + 1, s =>
    match s.memRead (base + BitVec.ofNat 16 (160 - (n + 1))) with
    | .ok v => State.dmaCopy base n (s.setArray (0xFE00 + (160 - (n + 1))) v)
    | .error r => .error (s.stop r)

/-- A write of DMA: store, then copy 160 bytes from `v << 8` into OAM (20_memory.md R64). -/
def State.writeDma (s : State) (v : Byte) : Except Fault State :=
  State.dmaCopy (word16 v 0) 160 { s with io := { s.io with dma := v } }

/-- `IoWrite(a, v)` of every register but DMA (10_state.md R35, 20_memory.md R66). -/
def State.ioStore (s : State) (a : Nat) (v : Byte) : State :=
  match a with
  | 0xFF00 => { s with io := { s.io with p1 := v.extractLsb' 4 2 } }
  | 0xFF01 => { s with io := { s.io with sb := v } }
  | 0xFF02 => { s with io := { s.io with sc := v } }
  | 0xFF04 => { s with timer := { s.timer with divCounter := 0 } }
  | 0xFF05 => { s with timer := { s.timer with tima := v } }
  | 0xFF06 => { s with timer := { s.timer with tma := v } }
  | 0xFF07 => { s with timer := { s.timer with tac := v } }
  | 0xFF0F => { s with io := { s.io with ifl := v } }
  | 0xFF40 => { s with ppu := s.ppu.writeLcdc v }
  | 0xFF41 => { s with ppu := { s.ppu with statEnables := v &&& 0x78 } }
  | 0xFF42 => { s with ppu := { s.ppu with scy := v } }
  | 0xFF43 => { s with ppu := { s.ppu with scx := v } }
  | 0xFF44 => s
  | 0xFF45 => { s with ppu := { s.ppu with lyc := v } }
  | 0xFF47 => { s with ppu := { s.ppu with bgp := v } }
  | 0xFF48 => { s with ppu := { s.ppu with obp0 := v } }
  | 0xFF49 => { s with ppu := { s.ppu with obp1 := v } }
  | 0xFF4A => { s with ppu := { s.ppu with wy := v } }
  | 0xFF4B => { s with ppu := { s.ppu with wx := v } }
  | 0xFF50 => { s with io := s.io.writeBoot v }
  | _ => s.setArray a v

/-- `IoWrite(a, v)` (10_state.md R35). -/
def State.ioWrite (s : State) (a : Nat) (v : Byte) : Except Fault State :=
  if a = 0xFF46 then s.writeDma v else .ok (s.ioStore a v)

/-- A write of external RAM (20_memory.md R57). -/
def State.cartRamWrite (s : State) (a : Nat) (v : Byte) : Except Fault State :=
  match s.orRaise (s.cart.ramWrite a v) with
  | .ok c => .ok { s with cart := c }
  | .error r => .error (s.stop r)

/-- `MemWrite(a, 1, v)` (20_memory.md R57). -/
def State.memWrite (s : State) (a : Word) (v : Byte) : Except Fault State :=
  if a.toNat ≤ 0x7FFF then .ok { s with cart := s.cart.control a.toNat v }
  else if a.toNat ≤ 0x9FFF then .ok (s.setArray a.toNat v)
  else if a.toNat ≤ 0xBFFF then s.cartRamWrite a.toNat v
  else if a.toNat ≤ 0xDFFF then .ok (s.setArray a.toNat v)
  else if a.toNat ≤ 0xFDFF then .ok (s.setArray (a.toNat - 0x2000) v)
  else if a.toNat ≤ 0xFE9F then .ok (s.setArray a.toNat v)
  else if a.toNat ≤ 0xFEFF then .ok s
  else if a.toNat ≤ 0xFF7F then s.ioWrite a.toNat v
  else if a.toNat ≤ 0xFFFE then .ok (s.setArray a.toNat v)
  else .ok { s with io := { s.io with ie := v } }

/-- `MemRead(a, 1)` as a part of a rule: the byte, or the fault of a refusal, which leaves `s`. -/
def State.load (s : State) (a : Word) : Except Fault Byte :=
  match s.memRead a with
  | .ok v => .ok v
  | .error r => .error (s.stop r)

/-- Go on with the byte at an address. -/
def State.readByte (s : State) (a : Word) (k : Byte → Result) : Result := andThen (s.load a) k

/-- Go on after storing a byte at an address. -/
def State.writeByte (s : State) (a : Word) (v : Byte) (k : State → Result) : Result :=
  andThen (s.memWrite a v) k

/-! ## 16-bit transfers -/

/-- `MemWrite16(a, v)`: the low byte at `a`, then the high byte at `a + 1` (00_scope.md R11). -/
def State.memWrite16 (s : State) (a v : Word) : Except Fault State :=
  match s.memWrite a (loByte v) with
  | .ok t => t.memWrite (a + 1) (hiByte v)
  | .error r => .error r

/-- `Push16(v)` (00_scope.md R13): the high byte at SP - 1, then the low byte at SP - 2. -/
def State.push16 (s : State) (v : Word) : Except Fault State :=
  match (s.setSp (s.cpu.sp - 1)).memWrite (s.cpu.sp - 1) (hiByte v) with
  | .ok t => (t.setSp (t.cpu.sp - 1)).memWrite (t.cpu.sp - 1) (loByte v)
  | .error r => .error r

/-- `Pop16()` (00_scope.md R13): the low byte at SP, then the high byte at SP + 1; SP rises by 1 after each. -/
def State.pop16 (s : State) : Except Fault (Word × State) :=
  match s.load s.cpu.sp with
  | .error r => .error r
  | .ok lo =>
    match (s.setSp (s.cpu.sp + 1)).load (s.cpu.sp + 1) with
    | .error r => .error r
    | .ok hi => .ok (word16 hi lo, s.setSp (s.cpu.sp + 2))

/-! ## Taking an interrupt and returning from one -/

/-- The lowest set bit of `pending`, among bits 0 to 4 (60_exceptions.md R361). -/
def lowestPending (p : Byte) : Fin 8 :=
  if p.getLsbD 0 then 0
  else if p.getLsbD 1 then 1
  else if p.getLsbD 2 then 2
  else if p.getLsbD 3 then 3
  else 4

/-- The vector of source `i`: `0x0040 + 8 * i` (60_exceptions.md R362). -/
def vector (i : Fin 8) : Word := BitVec.ofNat 16 (0x40 + 8 * i.val)

/-- The address a dispatch pushes: PC, or PC - 1 while `halt_bug` is set (60_exceptions.md R363, R366). -/
def State.returnAddress (s : State) : Word := if s.cpu.haltBug then s.cpu.pc - 1 else s.cpu.pc

/-- The machine just before a dispatch pushes: `IME`, `ime_scheduled`, `halted` and `halt_bug` cleared,
the serviced IF bit cleared, and a fault of the push recorded at the pushed address
(60_exceptions.md R363). -/
def State.enterDispatch (s : State) (i : Fin 8) : State :=
  ((((s.setIme false false).setHalted false).setHaltBug false).acknowledge i).setOpPc s.returnAddress

/-- `Dispatch(i)` (60_exceptions.md R363): 20 cycles. -/
def State.dispatch (s : State) (i : Fin 8) : Result :=
  andThen ((s.enterDispatch i).push16 s.returnAddress) fun t =>
    done Config.dispatchCycles (t.setPc (vector i))

/-- Pop PC: what every return does (44_control.md R308, R309, R310). -/
def State.popPc (s : State) : Except Fault State :=
  match s.pop16 with
  | .ok (v, t) => .ok (t.setPc v)
  | .error r => .error r

/-- The return from an interrupt: pop PC, and IME is set at once (44_control.md R310,
60_exceptions.md R367). -/
def State.returnFromInterrupt (s : State) : Except Fault State :=
  match s.popPc with
  | .ok t => .ok (t.setIme true false)
  | .error r => .error r

end Sys2Proof.Machine
end

