-- ==== Sys2Proof/Machine/Operands.lean ====
section
/-! DEFINITION. The flags of F, conditions, operand addresses, and the 8-bit operations over a value:
what the instruction families share. -/

namespace Sys2Proof.Machine

/-! ## Flags (10_state.md R24) -/

/-- Z = F[7]. -/
def State.flagZ (s : State) : Bool := s.cpu.f.getLsbD 7

/-- N = F[6]. -/
def State.flagN (s : State) : Bool := s.cpu.f.getLsbD 6

/-- H = F[5]. -/
def State.flagH (s : State) : Bool := s.cpu.f.getLsbD 5

/-- C = F[4]. -/
def State.flagC (s : State) : Bool := s.cpu.f.getLsbD 4

/-- F with the four flags given and its low nibble zero (10_state.md R23, R24). -/
def flagByte (z n h c : Bool) : Byte :=
  BitVec.ofNat 8 (bit z * 128 + bit n * 64 + bit h * 32 + bit c * 16)

/-- Write the four flags; an instruction that leaves a flag unchanged passes it as it was. -/
def State.setFlags (s : State) (z n h c : Bool) : State := s.setF (flagByte z n h c)

/-- `cond(cc)` (44_control.md R300). -/
def State.cond (s : State) : Cond → Bool
  | .nz => !s.flagZ
  | .z => s.flagZ
  | .nc => !s.flagC
  | .c => s.flagC

/-! ## Addresses (30_encoding.md R138) -/

/-- The high page: `0xFF00 + n8`, `0xFF00 + R[C]`. -/
def highPage (n : Byte) : Word := 0xFF00 + zext16 n

/-- A jump relative to the address after the instruction. -/
def State.relative (s : State) (e : Byte) : Word := s.cpu.pc + sext16 e

/-! ## 8-bit operations over a value -/

/-- Write an arithmetic result to A, Z from it, N as given, H and C as computed. -/
def State.setArith (s : State) (n : Bool) (r : Arith 8) : State :=
  (s.setReg .a r.value).setFlags (r.value == 0) n r.half r.carry

/-- Write a logic result to A, Z from it, N 0, H as given, C 0. -/
def State.setLogic (s : State) (h : Bool) (r : Byte) : State :=
  (s.setReg .a r).setFlags (r == 0) false h false

/-- The ALU operations on A and a second operand: ADD R206, ADC R209, SUB R212, SBC R215, AND R218,
XOR R221, OR R224, CP R227 (41_alu8.md). -/
def State.alu (s : State) (op : AluOp) (v : Byte) : State :=
  match op with
  | .add => s.setArith false (add8 s.cpu.a v false)
  | .adc => s.setArith false (add8 s.cpu.a v s.flagC)
  | .sub => s.setArith true (sub8 s.cpu.a v false)
  | .sbc => s.setArith true (sub8 s.cpu.a v s.flagC)
  | .and => s.setLogic true (s.cpu.a &&& v)
  | .xor => s.setLogic false (s.cpu.a ^^^ v)
  | .or => s.setLogic false (s.cpu.a ||| v)
  | .cp =>
    let r := sub8 s.cpu.a v false
    s.setFlags (r.value == 0) true r.half r.carry

/-- The flags of INC from the old byte; C unchanged (41_alu8.md R202). -/
def State.incFlags (s : State) (old : Byte) : State :=
  s.setFlags (old + 1 == 0) false (old.toNat % 16 == 0x0F) s.flagC

/-- The flags of DEC from the old byte; C unchanged (41_alu8.md R204). -/
def State.decFlags (s : State) (old : Byte) : State :=
  s.setFlags (old - 1 == 0) true (old.toNat % 16 == 0x00) s.flagC

/-- The flags of a CB rotate or shift: Z from the result, N 0, H 0, C the bit shifted out
(43_rotate_shift_bit.md section 4). -/
def State.rotFlags (s : State) (r : Byte × Bool) : State := s.setFlags (r.1 == 0) false false r.2

/-- The flags of BIT: Z set where the bit is 0, N 0, H 1, C unchanged (43_rotate_shift_bit.md R282). -/
def State.bitFlags (s : State) (v : Byte) (b : Fin 8) : State :=
  s.setFlags (!v.getLsbD b) false true s.flagC

end Sys2Proof.Machine
end

