-- ==== Sys2Proof/Machine/Alu16.lean ====
section
/-! DEFINITION. 16-bit arithmetic (spec/42_alu16.md): the shared operations, then one meaning a row. -/

namespace Sys2Proof.Machine

/-! ## Shared operations -/

/-- `R[rr] <- R[rr] + delta`, no flag, 8 cycles (R241, R242). -/
def stepPair (p : Pair) (delta : Word) (s : State) : Result :=
  done 8 (s.setPair p (s.pair p + delta))

/-- `ADD HL,rr`: Z unchanged, N 0, H and C computed, 8 cycles (R243). -/
def addHl (p : Pair) (s : State) : Result :=
  let r := add16 s.hl (s.pair p)
  done 8 ((s.setPair .hl r.value).setFlags s.flagZ false r.half r.carry)

/-- `ADD SP,e8`: Z 0, N 0, H and C computed, 16 cycles (R244). -/
def addSp (e : Byte) (s : State) : Result :=
  let r := spPlusE8 s.cpu.sp e
  done 16 ((s.setSp r.value).setFlags false false r.half r.carry)

/-- `LD HL,SP+e8`: Z 0, N 0, H and C computed, SP unchanged, 12 cycles (R245). -/
def ldHlSpPlus (e : Byte) (s : State) : Result :=
  let r := spPlusE8 s.cpu.sp e
  done 12 ((s.setPair .hl r.value).setFlags false false r.half r.carry)

/-! ## Meanings -/

/-- `INC BC` (R241). -/
def execIncBc (s : State) : Result := stepPair .bc 1 s

/-- `ADD HL,BC` (R243). -/
def execAddHlBc (s : State) : Result := addHl .bc s

/-- `DEC BC` (R242). -/
def execDecBc (s : State) : Result := stepPair .bc (-1) s

/-- `INC DE` (R241). -/
def execIncDe (s : State) : Result := stepPair .de 1 s

/-- `ADD HL,DE` (R243). -/
def execAddHlDe (s : State) : Result := addHl .de s

/-- `DEC DE` (R242). -/
def execDecDe (s : State) : Result := stepPair .de (-1) s

/-- `INC HL` (R241). -/
def execIncHl (s : State) : Result := stepPair .hl 1 s

/-- `ADD HL,HL` (R243). -/
def execAddHlHl (s : State) : Result := addHl .hl s

/-- `DEC HL` (R242). -/
def execDecHl (s : State) : Result := stepPair .hl (-1) s

/-- `INC SP` (R241). -/
def execIncSp (s : State) : Result := stepPair .sp 1 s

/-- `ADD HL,SP` (R243). -/
def execAddHlSp (s : State) : Result := addHl .sp s

/-- `DEC SP` (R242). -/
def execDecSp (s : State) : Result := stepPair .sp (-1) s

/-- `ADD SP,e8` (R244). -/
def execAddSpE8 (e : Byte) (s : State) : Result := addSp e s

/-- `LD HL,SP+e8` (R245). -/
def execLdHlSpE8 (e : Byte) (s : State) : Result := ldHlSpPlus e s

end Sys2Proof.Machine
end

