-- ==== Sys2Proof/Machine/Control.lean ====
section
/-! DEFINITION. Jumps, calls, returns and restarts (spec/44_control.md): the shared operations, then one
meaning a row. No instruction of this family changes a flag. PC already holds the address after the
instruction (00_scope.md R15). -/

namespace Sys2Proof.Machine

/-! ## Shared operations -/

/-- `R[PC] <- target`. -/
def jump (cycles : Nat) (target : Word) (s : State) : Result := done cycles (s.setPc target)

/-- `JP cc,a16`: 16 cycles taken, 12 not (R302). -/
def jumpIf (cc : Cond) (a : Word) (s : State) : Result := if s.cond cc then jump 16 a s else done 12 s

/-- `JR cc,e8`: 12 cycles taken, 8 not (R305). -/
def jumpRelativeIf (cc : Cond) (e : Byte) (s : State) : Result :=
  if s.cond cc then jump 12 (s.relative e) s else done 8 s

/-- `Push16(R[PC]); R[PC] <- target` (R306, R311). -/
def callTo (cycles : Nat) (target : Word) (s : State) : Result :=
  andThen (s.push16 s.cpu.pc) fun t => done cycles (t.setPc target)

/-- `CALL cc,a16`: 24 cycles taken, 12 and no stack access not (R307). -/
def callIf (cc : Cond) (a : Word) (s : State) : Result :=
  if s.cond cc then callTo 24 a s else done 12 s

/-- `R[PC] <- Pop16()` (R308). -/
def return16 (cycles : Nat) (s : State) : Result := andThen s.popPc (done cycles)

/-- `RET cc`: 20 cycles taken, 8 and no stack access not (R309). -/
def returnIf (cc : Cond) (s : State) : Result := if s.cond cc then return16 20 s else done 8 s

/-- RETI: the shared return from an interrupt, 16 cycles (R310). -/
def returnAndEnable (s : State) : Result := andThen s.returnFromInterrupt (done 16)

/-! ## Meanings -/

/-- `JR e8` (R304). -/
def execJrE8 (e : Byte) (s : State) : Result := jump 12 (s.relative e) s

/-- `JR NZ,e8` (R305). -/
def execJrNzE8 (e : Byte) (s : State) : Result := jumpRelativeIf .nz e s

/-- `JR Z,e8` (R305). -/
def execJrZE8 (e : Byte) (s : State) : Result := jumpRelativeIf .z e s

/-- `JR NC,e8` (R305). -/
def execJrNcE8 (e : Byte) (s : State) : Result := jumpRelativeIf .nc e s

/-- `JR C,e8` (R305). -/
def execJrCE8 (e : Byte) (s : State) : Result := jumpRelativeIf .c e s

/-- `RET NZ` (R309). -/
def execRetNz (s : State) : Result := returnIf .nz s

/-- `JP NZ,a16` (R302). -/
def execJpNzA16 (a : Word) (s : State) : Result := jumpIf .nz a s

/-- `JP a16` (R301). -/
def execJpA16 (a : Word) (s : State) : Result := jump 16 a s

/-- `CALL NZ,a16` (R307). -/
def execCallNzA16 (a : Word) (s : State) : Result := callIf .nz a s

/-- `RST 0x00` (R311). -/
def execRst00 (s : State) : Result := callTo 16 0x0000 s

/-- `RET Z` (R309). -/
def execRetZ (s : State) : Result := returnIf .z s

/-- `RET` (R308). -/
def execRet (s : State) : Result := return16 16 s

/-- `JP Z,a16` (R302). -/
def execJpZA16 (a : Word) (s : State) : Result := jumpIf .z a s

/-- `CALL Z,a16` (R307). -/
def execCallZA16 (a : Word) (s : State) : Result := callIf .z a s

/-- `CALL a16` (R306). -/
def execCallA16 (a : Word) (s : State) : Result := callTo 24 a s

/-- `RST 0x08` (R311). -/
def execRst08 (s : State) : Result := callTo 16 0x0008 s

/-- `RET NC` (R309). -/
def execRetNc (s : State) : Result := returnIf .nc s

/-- `JP NC,a16` (R302). -/
def execJpNcA16 (a : Word) (s : State) : Result := jumpIf .nc a s

/-- `CALL NC,a16` (R307). -/
def execCallNcA16 (a : Word) (s : State) : Result := callIf .nc a s

/-- `RST 0x10` (R311). -/
def execRst10 (s : State) : Result := callTo 16 0x0010 s

/-- `RET C` (R309). -/
def execRetC (s : State) : Result := returnIf .c s

/-- `RETI` (R310). -/
def execReti (s : State) : Result := returnAndEnable s

/-- `JP C,a16` (R302). -/
def execJpCA16 (a : Word) (s : State) : Result := jumpIf .c a s

/-- `CALL C,a16` (R307). -/
def execCallCA16 (a : Word) (s : State) : Result := callIf .c a s

/-- `RST 0x18` (R311). -/
def execRst18 (s : State) : Result := callTo 16 0x0018 s

/-- `RST 0x20` (R311). -/
def execRst20 (s : State) : Result := callTo 16 0x0020 s

/-- `JP HL` (R303). -/
def execJpHl (s : State) : Result := jump 4 s.hl s

/-- `RST 0x28` (R311). -/
def execRst28 (s : State) : Result := callTo 16 0x0028 s

/-- `RST 0x30` (R311). -/
def execRst30 (s : State) : Result := callTo 16 0x0030 s

/-- `RST 0x38` (R311). -/
def execRst38 (s : State) : Result := callTo 16 0x0038 s

end Sys2Proof.Machine
end

