-- ==== Sys2Proof/Machine/Loads.lean ====
section
/-! DEFINITION. Loads, stores and stack transfers (spec/40_loads.md): the shared operations, then one
meaning a row. No load changes a flag but POP AF (R160). -/

namespace Sys2Proof.Machine

/-! ## Shared operations -/

/-- `R[d] <- R[s]`, 4 cycles. -/
def ldRegReg (dst src : Reg8) (s : State) : Result := done 4 (s.setReg dst (s.reg src))

/-- `R[d] <- MemRead(R[HL], 1)`, 8 cycles. -/
def ldRegHl (dst : Reg8) (s : State) : Result := s.readByte s.hl fun v => done 8 (s.setReg dst v)

/-- `MemWrite(R[HL], 1, R[s])`, 8 cycles. -/
def ldHlReg (r : Reg8) (s : State) : Result := s.writeByte s.hl (s.reg r) (done 8)

/-- `R[d] <- n8`, 8 cycles. -/
def ldRegImm (dst : Reg8) (n : Byte) (s : State) : Result := done 8 (s.setReg dst n)

/-- `MemWrite(R[HL], 1, n8)`, 12 cycles. -/
def ldHlImm (n : Byte) (s : State) : Result := s.writeByte s.hl n (done 12)

/-- `R[A] <- MemRead(R[rr], 1)`, 8 cycles. -/
def ldAIndPair (p : Pair) (s : State) : Result :=
  s.readByte (s.pair p) fun v => done 8 (s.setReg .a v)

/-- `MemWrite(R[rr], 1, R[A])`, 8 cycles. -/
def ldIndPairA (p : Pair) (s : State) : Result := s.writeByte (s.pair p) s.cpu.a (done 8)

/-- `R[A] <- MemRead(R[HL], 1); R[HL] <- R[HL] + delta`, 8 cycles. -/
def ldAHlStep (delta : Word) (s : State) : Result :=
  s.readByte s.hl fun v => done 8 ((s.setReg .a v).setPair .hl (s.hl + delta))

/-- `MemWrite(R[HL], 1, R[A]); R[HL] <- R[HL] + delta`, 8 cycles. -/
def ldHlStepA (delta : Word) (s : State) : Result :=
  s.writeByte s.hl s.cpu.a fun t => done 8 (t.setPair .hl (t.hl + delta))

/-- `R[A] <- MemRead(a, 1)`. -/
def ldAAbs (cycles : Nat) (a : Word) (s : State) : Result :=
  s.readByte a fun v => done cycles (s.setReg .a v)

/-- `MemWrite(a, 1, R[A])`. -/
def ldAbsA (cycles : Nat) (a : Word) (s : State) : Result := s.writeByte a s.cpu.a (done cycles)

/-- `R[rr] <- n16`, 12 cycles. -/
def ldPairImm (p : Pair) (n : Word) (s : State) : Result := done 12 (s.setPair p n)

/-- SP stored low byte first, 20 cycles. -/
def ldAbsSp (a : Word) (s : State) : Result := andThen (s.memWrite16 a s.cpu.sp) (done 20)

/-- `R[SP] <- R[HL]`, 8 cycles. -/
def ldSpHl (s : State) : Result := done 8 (s.setSp s.hl)

/-- `Push16(R[rr])`, 16 cycles. -/
def pushPair (p : StackPair) (s : State) : Result := andThen (s.push16 (s.stackPair p)) (done 16)

/-- `R[rr] <- Pop16()`, 12 cycles. -/
def popPair (p : StackPair) (s : State) : Result :=
  andThen s.pop16 fun r => done 12 (r.2.setStackPair p r.1)

/-! ## Meanings -/

/-- `LD BC,n16` (R178). -/
def execLdBcN16 (n : Word) (s : State) : Result := ldPairImm .bc n s

/-- `LD [BC],A` (R167). -/
def execLdIndBcA (s : State) : Result := ldIndPairA .bc s

/-- `LD B,n8` (R164). -/
def execLdBN8 (n : Byte) (s : State) : Result := ldRegImm .b n s

/-- `LD [a16],SP` (R179). -/
def execLdIndA16Sp (a : Word) (s : State) : Result := ldAbsSp a s

/-- `LD A,[BC]` (R166). -/
def execLdAIndBc (s : State) : Result := ldAIndPair .bc s

/-- `LD C,n8` (R164). -/
def execLdCN8 (n : Byte) (s : State) : Result := ldRegImm .c n s

/-- `LD DE,n16` (R178). -/
def execLdDeN16 (n : Word) (s : State) : Result := ldPairImm .de n s

/-- `LD [DE],A` (R167). -/
def execLdIndDeA (s : State) : Result := ldIndPairA .de s

/-- `LD D,n8` (R164). -/
def execLdDN8 (n : Byte) (s : State) : Result := ldRegImm .d n s

/-- `LD A,[DE]` (R166). -/
def execLdAIndDe (s : State) : Result := ldAIndPair .de s

/-- `LD E,n8` (R164). -/
def execLdEN8 (n : Byte) (s : State) : Result := ldRegImm .e n s

/-- `LD HL,n16` (R178). -/
def execLdHlN16 (n : Word) (s : State) : Result := ldPairImm .hl n s

/-- `LD [HL+],A` (R170). -/
def execLdIndHliA (s : State) : Result := ldHlStepA 1 s

/-- `LD H,n8` (R164). -/
def execLdHN8 (n : Byte) (s : State) : Result := ldRegImm .h n s

/-- `LD A,[HL+]` (R168). -/
def execLdAIndHli (s : State) : Result := ldAHlStep 1 s

/-- `LD L,n8` (R164). -/
def execLdLN8 (n : Byte) (s : State) : Result := ldRegImm .l n s

/-- `LD SP,n16` (R178). -/
def execLdSpN16 (n : Word) (s : State) : Result := ldPairImm .sp n s

/-- `LD [HL-],A` (R171). -/
def execLdIndHldA (s : State) : Result := ldHlStepA (-1) s

/-- `LD [HL],n8` (R165). -/
def execLdIndHlN8 (n : Byte) (s : State) : Result := ldHlImm n s

/-- `LD A,[HL-]` (R169). -/
def execLdAIndHld (s : State) : Result := ldAHlStep (-1) s

/-- `LD A,n8` (R164). -/
def execLdAN8 (n : Byte) (s : State) : Result := ldRegImm .a n s

/-- `LD B,B` (R161). -/
def execLdBB (s : State) : Result := ldRegReg .b .b s

/-- `LD B,C` (R161). -/
def execLdBC (s : State) : Result := ldRegReg .b .c s

/-- `LD B,D` (R161). -/
def execLdBD (s : State) : Result := ldRegReg .b .d s

/-- `LD B,E` (R161). -/
def execLdBE (s : State) : Result := ldRegReg .b .e s

/-- `LD B,H` (R161). -/
def execLdBH (s : State) : Result := ldRegReg .b .h s

/-- `LD B,L` (R161). -/
def execLdBL (s : State) : Result := ldRegReg .b .l s

/-- `LD B,[HL]` (R162). -/
def execLdBIndHl (s : State) : Result := ldRegHl .b s

/-- `LD B,A` (R161). -/
def execLdBA (s : State) : Result := ldRegReg .b .a s

/-- `LD C,B` (R161). -/
def execLdCB (s : State) : Result := ldRegReg .c .b s

/-- `LD C,C` (R161). -/
def execLdCC (s : State) : Result := ldRegReg .c .c s

/-- `LD C,D` (R161). -/
def execLdCD (s : State) : Result := ldRegReg .c .d s

/-- `LD C,E` (R161). -/
def execLdCE (s : State) : Result := ldRegReg .c .e s

/-- `LD C,H` (R161). -/
def execLdCH (s : State) : Result := ldRegReg .c .h s

/-- `LD C,L` (R161). -/
def execLdCL (s : State) : Result := ldRegReg .c .l s

/-- `LD C,[HL]` (R162). -/
def execLdCIndHl (s : State) : Result := ldRegHl .c s

/-- `LD C,A` (R161). -/
def execLdCA (s : State) : Result := ldRegReg .c .a s

/-- `LD D,B` (R161). -/
def execLdDB (s : State) : Result := ldRegReg .d .b s

/-- `LD D,C` (R161). -/
def execLdDC (s : State) : Result := ldRegReg .d .c s

/-- `LD D,D` (R161). -/
def execLdDD (s : State) : Result := ldRegReg .d .d s

/-- `LD D,E` (R161). -/
def execLdDE (s : State) : Result := ldRegReg .d .e s

/-- `LD D,H` (R161). -/
def execLdDH (s : State) : Result := ldRegReg .d .h s

/-- `LD D,L` (R161). -/
def execLdDL (s : State) : Result := ldRegReg .d .l s

/-- `LD D,[HL]` (R162). -/
def execLdDIndHl (s : State) : Result := ldRegHl .d s

/-- `LD D,A` (R161). -/
def execLdDA (s : State) : Result := ldRegReg .d .a s

/-- `LD E,B` (R161). -/
def execLdEB (s : State) : Result := ldRegReg .e .b s

/-- `LD E,C` (R161). -/
def execLdEC (s : State) : Result := ldRegReg .e .c s

/-- `LD E,D` (R161). -/
def execLdED (s : State) : Result := ldRegReg .e .d s

/-- `LD E,E` (R161). -/
def execLdEE (s : State) : Result := ldRegReg .e .e s

/-- `LD E,H` (R161). -/
def execLdEH (s : State) : Result := ldRegReg .e .h s

/-- `LD E,L` (R161). -/
def execLdEL (s : State) : Result := ldRegReg .e .l s

/-- `LD E,[HL]` (R162). -/
def execLdEIndHl (s : State) : Result := ldRegHl .e s

/-- `LD E,A` (R161). -/
def execLdEA (s : State) : Result := ldRegReg .e .a s

/-- `LD H,B` (R161). -/
def execLdHB (s : State) : Result := ldRegReg .h .b s

/-- `LD H,C` (R161). -/
def execLdHC (s : State) : Result := ldRegReg .h .c s

/-- `LD H,D` (R161). -/
def execLdHD (s : State) : Result := ldRegReg .h .d s

/-- `LD H,E` (R161). -/
def execLdHE (s : State) : Result := ldRegReg .h .e s

/-- `LD H,H` (R161). -/
def execLdHH (s : State) : Result := ldRegReg .h .h s

/-- `LD H,L` (R161). -/
def execLdHL (s : State) : Result := ldRegReg .h .l s

/-- `LD H,[HL]` (R162). -/
def execLdHIndHl (s : State) : Result := ldRegHl .h s

/-- `LD H,A` (R161). -/
def execLdHA (s : State) : Result := ldRegReg .h .a s

/-- `LD L,B` (R161). -/
def execLdLB (s : State) : Result := ldRegReg .l .b s

/-- `LD L,C` (R161). -/
def execLdLC (s : State) : Result := ldRegReg .l .c s

/-- `LD L,D` (R161). -/
def execLdLD (s : State) : Result := ldRegReg .l .d s

/-- `LD L,E` (R161). -/
def execLdLE (s : State) : Result := ldRegReg .l .e s

/-- `LD L,H` (R161). -/
def execLdLH (s : State) : Result := ldRegReg .l .h s

/-- `LD L,L` (R161). -/
def execLdLL (s : State) : Result := ldRegReg .l .l s

/-- `LD L,[HL]` (R162). -/
def execLdLIndHl (s : State) : Result := ldRegHl .l s

/-- `LD L,A` (R161). -/
def execLdLA (s : State) : Result := ldRegReg .l .a s

/-- `LD [HL],B` (R163). -/
def execLdIndHlB (s : State) : Result := ldHlReg .b s

/-- `LD [HL],C` (R163). -/
def execLdIndHlC (s : State) : Result := ldHlReg .c s

/-- `LD [HL],D` (R163). -/
def execLdIndHlD (s : State) : Result := ldHlReg .d s

/-- `LD [HL],E` (R163). -/
def execLdIndHlE (s : State) : Result := ldHlReg .e s

/-- `LD [HL],H` (R163). -/
def execLdIndHlH (s : State) : Result := ldHlReg .h s

/-- `LD [HL],L` (R163). -/
def execLdIndHlL (s : State) : Result := ldHlReg .l s

/-- `LD [HL],A` (R163). -/
def execLdIndHlA (s : State) : Result := ldHlReg .a s

/-- `LD A,B` (R161). -/
def execLdAB (s : State) : Result := ldRegReg .a .b s

/-- `LD A,C` (R161). -/
def execLdAC (s : State) : Result := ldRegReg .a .c s

/-- `LD A,D` (R161). -/
def execLdAD (s : State) : Result := ldRegReg .a .d s

/-- `LD A,E` (R161). -/
def execLdAE (s : State) : Result := ldRegReg .a .e s

/-- `LD A,H` (R161). -/
def execLdAH (s : State) : Result := ldRegReg .a .h s

/-- `LD A,L` (R161). -/
def execLdAL (s : State) : Result := ldRegReg .a .l s

/-- `LD A,[HL]` (R162). -/
def execLdAIndHl (s : State) : Result := ldRegHl .a s

/-- `LD A,A` (R161). -/
def execLdAA (s : State) : Result := ldRegReg .a .a s

/-- `POP BC` (R183). -/
def execPopBc (s : State) : Result := popPair .bc s

/-- `PUSH BC` (R182). -/
def execPushBc (s : State) : Result := pushPair .bc s

/-- `POP DE` (R183). -/
def execPopDe (s : State) : Result := popPair .de s

/-- `PUSH DE` (R182). -/
def execPushDe (s : State) : Result := pushPair .de s

/-- `LDH [a8],A` (R175). -/
def execLdhIndA8A (n : Byte) (s : State) : Result := ldAbsA 12 (highPage n) s

/-- `POP HL` (R183). -/
def execPopHl (s : State) : Result := popPair .hl s

/-- `LDH [C],A` (R177). -/
def execLdhIndCA (s : State) : Result := ldAbsA 8 (highPage s.cpu.c) s

/-- `PUSH HL` (R182). -/
def execPushHl (s : State) : Result := pushPair .hl s

/-- `LD [a16],A` (R173). -/
def execLdIndA16A (a : Word) (s : State) : Result := ldAbsA 16 a s

/-- `LDH A,[a8]` (R174). -/
def execLdhAIndA8 (n : Byte) (s : State) : Result := ldAAbs 12 (highPage n) s

/-- `POP AF` (R185). -/
def execPopAf (s : State) : Result := popPair .af s

/-- `LDH A,[C]` (R176). -/
def execLdhAIndC (s : State) : Result := ldAAbs 8 (highPage s.cpu.c) s

/-- `PUSH AF` (R184). -/
def execPushAf (s : State) : Result := pushPair .af s

/-- `LD SP,HL` (R180). -/
def execLdSpHl (s : State) : Result := ldSpHl s

/-- `LD A,[a16]` (R172). -/
def execLdAIndA16 (a : Word) (s : State) : Result := ldAAbs 16 a s

end Sys2Proof.Machine
end

