-- ==== Sys2Proof/Machine/Alu8.lean ====
section
/-! DEFINITION. 8-bit arithmetic and logic (spec/41_alu8.md): the shared operations, then one meaning a
row. -/

namespace Sys2Proof.Machine

/-! ## Shared operations -/

/-- The register form of an ALU operation, 4 cycles (R200). -/
def aluReg (op : AluOp) (r : Reg8) (s : State) : Result := done 4 (s.alu op (s.reg r))

/-- The memory form of an ALU operation, 8 cycles (R200). -/
def aluMem (op : AluOp) (s : State) : Result := s.readByte s.hl fun v => done 8 (s.alu op v)

/-- The immediate form of an ALU operation, 8 cycles (R200). -/
def aluImm (op : AluOp) (n : Byte) (s : State) : Result := done 8 (s.alu op n)

/-- Increment a register, 4 cycles (R202). -/
def incReg (dst : Reg8) (s : State) : Result :=
  done 4 ((s.setReg dst (s.reg dst + 1)).incFlags (s.reg dst))

/-- Increment the byte at HL: a read, then a write, 12 cycles (R203). -/
def incMem (s : State) : Result :=
  s.readByte s.hl fun old => s.writeByte s.hl (old + 1) fun t => done 12 (t.incFlags old)

/-- Decrement a register, 4 cycles (R204). -/
def decReg (dst : Reg8) (s : State) : Result :=
  done 4 ((s.setReg dst (s.reg dst - 1)).decFlags (s.reg dst))

/-- Decrement the byte at HL: a read, then a write, 12 cycles (R205). -/
def decMem (s : State) : Result :=
  s.readByte s.hl fun old => s.writeByte s.hl (old - 1) fun t => done 12 (t.decFlags old)

/-- DAA: A and C adjusted, Z from the result, N unchanged, H 0, 4 cycles (R230). -/
def adjustDecimal (s : State) : Result :=
  let r := daa s.cpu.a s.flagN s.flagH s.flagC
  done 4 ((s.setReg .a r.1).setFlags (r.1 == 0) s.flagN false r.2)

/-- CPL: A complemented, N 1, H 1, Z and C unchanged, 4 cycles (R231). -/
def complementA (s : State) : Result :=
  done 4 ((s.setReg .a (~~~s.cpu.a)).setFlags s.flagZ true true s.flagC)

/-- SCF and CCF: C as given, N 0, H 0, Z unchanged, 4 cycles (R232, R233). -/
def writeCarry (c : Bool) (s : State) : Result := done 4 (s.setFlags s.flagZ false false c)

/-! ## Meanings -/

/-- `INC B` (R202). -/
def execIncB (s : State) : Result := incReg .b s

/-- `DEC B` (R204). -/
def execDecB (s : State) : Result := decReg .b s

/-- `INC C` (R202). -/
def execIncC (s : State) : Result := incReg .c s

/-- `DEC C` (R204). -/
def execDecC (s : State) : Result := decReg .c s

/-- `INC D` (R202). -/
def execIncD (s : State) : Result := incReg .d s

/-- `DEC D` (R204). -/
def execDecD (s : State) : Result := decReg .d s

/-- `INC E` (R202). -/
def execIncE (s : State) : Result := incReg .e s

/-- `DEC E` (R204). -/
def execDecE (s : State) : Result := decReg .e s

/-- `INC H` (R202). -/
def execIncH (s : State) : Result := incReg .h s

/-- `DEC H` (R204). -/
def execDecH (s : State) : Result := decReg .h s

/-- `DAA` (R230). -/
def execDaa (s : State) : Result := adjustDecimal s

/-- `INC L` (R202). -/
def execIncL (s : State) : Result := incReg .l s

/-- `DEC L` (R204). -/
def execDecL (s : State) : Result := decReg .l s

/-- `CPL` (R231). -/
def execCpl (s : State) : Result := complementA s

/-- `INC [HL]` (R203). -/
def execIncIndHl (s : State) : Result := incMem s

/-- `DEC [HL]` (R205). -/
def execDecIndHl (s : State) : Result := decMem s

/-- `SCF` (R232). -/
def execScf (s : State) : Result := writeCarry true s

/-- `INC A` (R202). -/
def execIncA (s : State) : Result := incReg .a s

/-- `DEC A` (R204). -/
def execDecA (s : State) : Result := decReg .a s

/-- `CCF` (R233). -/
def execCcf (s : State) : Result := writeCarry (!s.flagC) s

/-- `ADD A,B` (R206). -/
def execAddAB (s : State) : Result := aluReg .add .b s

/-- `ADD A,C` (R206). -/
def execAddAC (s : State) : Result := aluReg .add .c s

/-- `ADD A,D` (R206). -/
def execAddAD (s : State) : Result := aluReg .add .d s

/-- `ADD A,E` (R206). -/
def execAddAE (s : State) : Result := aluReg .add .e s

/-- `ADD A,H` (R206). -/
def execAddAH (s : State) : Result := aluReg .add .h s

/-- `ADD A,L` (R206). -/
def execAddAL (s : State) : Result := aluReg .add .l s

/-- `ADD A,[HL]` (R207). -/
def execAddAIndHl (s : State) : Result := aluMem .add s

/-- `ADD A,A` (R206). -/
def execAddAA (s : State) : Result := aluReg .add .a s

/-- `ADC A,B` (R209). -/
def execAdcAB (s : State) : Result := aluReg .adc .b s

/-- `ADC A,C` (R209). -/
def execAdcAC (s : State) : Result := aluReg .adc .c s

/-- `ADC A,D` (R209). -/
def execAdcAD (s : State) : Result := aluReg .adc .d s

/-- `ADC A,E` (R209). -/
def execAdcAE (s : State) : Result := aluReg .adc .e s

/-- `ADC A,H` (R209). -/
def execAdcAH (s : State) : Result := aluReg .adc .h s

/-- `ADC A,L` (R209). -/
def execAdcAL (s : State) : Result := aluReg .adc .l s

/-- `ADC A,[HL]` (R210). -/
def execAdcAIndHl (s : State) : Result := aluMem .adc s

/-- `ADC A,A` (R209). -/
def execAdcAA (s : State) : Result := aluReg .adc .a s

/-- `SUB A,B` (R212). -/
def execSubAB (s : State) : Result := aluReg .sub .b s

/-- `SUB A,C` (R212). -/
def execSubAC (s : State) : Result := aluReg .sub .c s

/-- `SUB A,D` (R212). -/
def execSubAD (s : State) : Result := aluReg .sub .d s

/-- `SUB A,E` (R212). -/
def execSubAE (s : State) : Result := aluReg .sub .e s

/-- `SUB A,H` (R212). -/
def execSubAH (s : State) : Result := aluReg .sub .h s

/-- `SUB A,L` (R212). -/
def execSubAL (s : State) : Result := aluReg .sub .l s

/-- `SUB A,[HL]` (R213). -/
def execSubAIndHl (s : State) : Result := aluMem .sub s

/-- `SUB A,A` (R212). -/
def execSubAA (s : State) : Result := aluReg .sub .a s

/-- `SBC A,B` (R215). -/
def execSbcAB (s : State) : Result := aluReg .sbc .b s

/-- `SBC A,C` (R215). -/
def execSbcAC (s : State) : Result := aluReg .sbc .c s

/-- `SBC A,D` (R215). -/
def execSbcAD (s : State) : Result := aluReg .sbc .d s

/-- `SBC A,E` (R215). -/
def execSbcAE (s : State) : Result := aluReg .sbc .e s

/-- `SBC A,H` (R215). -/
def execSbcAH (s : State) : Result := aluReg .sbc .h s

/-- `SBC A,L` (R215). -/
def execSbcAL (s : State) : Result := aluReg .sbc .l s

/-- `SBC A,[HL]` (R216). -/
def execSbcAIndHl (s : State) : Result := aluMem .sbc s

/-- `SBC A,A` (R215). -/
def execSbcAA (s : State) : Result := aluReg .sbc .a s

/-- `AND A,B` (R218). -/
def execAndAB (s : State) : Result := aluReg .and .b s

/-- `AND A,C` (R218). -/
def execAndAC (s : State) : Result := aluReg .and .c s

/-- `AND A,D` (R218). -/
def execAndAD (s : State) : Result := aluReg .and .d s

/-- `AND A,E` (R218). -/
def execAndAE (s : State) : Result := aluReg .and .e s

/-- `AND A,H` (R218). -/
def execAndAH (s : State) : Result := aluReg .and .h s

/-- `AND A,L` (R218). -/
def execAndAL (s : State) : Result := aluReg .and .l s

/-- `AND A,[HL]` (R219). -/
def execAndAIndHl (s : State) : Result := aluMem .and s

/-- `AND A,A` (R218). -/
def execAndAA (s : State) : Result := aluReg .and .a s

/-- `XOR A,B` (R221). -/
def execXorAB (s : State) : Result := aluReg .xor .b s

/-- `XOR A,C` (R221). -/
def execXorAC (s : State) : Result := aluReg .xor .c s

/-- `XOR A,D` (R221). -/
def execXorAD (s : State) : Result := aluReg .xor .d s

/-- `XOR A,E` (R221). -/
def execXorAE (s : State) : Result := aluReg .xor .e s

/-- `XOR A,H` (R221). -/
def execXorAH (s : State) : Result := aluReg .xor .h s

/-- `XOR A,L` (R221). -/
def execXorAL (s : State) : Result := aluReg .xor .l s

/-- `XOR A,[HL]` (R222). -/
def execXorAIndHl (s : State) : Result := aluMem .xor s

/-- `XOR A,A` (R221). -/
def execXorAA (s : State) : Result := aluReg .xor .a s

/-- `OR A,B` (R224). -/
def execOrAB (s : State) : Result := aluReg .or .b s

/-- `OR A,C` (R224). -/
def execOrAC (s : State) : Result := aluReg .or .c s

/-- `OR A,D` (R224). -/
def execOrAD (s : State) : Result := aluReg .or .d s

/-- `OR A,E` (R224). -/
def execOrAE (s : State) : Result := aluReg .or .e s

/-- `OR A,H` (R224). -/
def execOrAH (s : State) : Result := aluReg .or .h s

/-- `OR A,L` (R224). -/
def execOrAL (s : State) : Result := aluReg .or .l s

/-- `OR A,[HL]` (R225). -/
def execOrAIndHl (s : State) : Result := aluMem .or s

/-- `OR A,A` (R224). -/
def execOrAA (s : State) : Result := aluReg .or .a s

/-- `CP A,B` (R227). -/
def execCpAB (s : State) : Result := aluReg .cp .b s

/-- `CP A,C` (R227). -/
def execCpAC (s : State) : Result := aluReg .cp .c s

/-- `CP A,D` (R227). -/
def execCpAD (s : State) : Result := aluReg .cp .d s

/-- `CP A,E` (R227). -/
def execCpAE (s : State) : Result := aluReg .cp .e s

/-- `CP A,H` (R227). -/
def execCpAH (s : State) : Result := aluReg .cp .h s

/-- `CP A,L` (R227). -/
def execCpAL (s : State) : Result := aluReg .cp .l s

/-- `CP A,[HL]` (R228). -/
def execCpAIndHl (s : State) : Result := aluMem .cp s

/-- `CP A,A` (R227). -/
def execCpAA (s : State) : Result := aluReg .cp .a s

/-- `ADD A,n8` (R208). -/
def execAddAN8 (n : Byte) (s : State) : Result := aluImm .add n s

/-- `ADC A,n8` (R211). -/
def execAdcAN8 (n : Byte) (s : State) : Result := aluImm .adc n s

/-- `SUB A,n8` (R214). -/
def execSubAN8 (n : Byte) (s : State) : Result := aluImm .sub n s

/-- `SBC A,n8` (R217). -/
def execSbcAN8 (n : Byte) (s : State) : Result := aluImm .sbc n s

/-- `AND A,n8` (R220). -/
def execAndAN8 (n : Byte) (s : State) : Result := aluImm .and n s

/-- `XOR A,n8` (R223). -/
def execXorAN8 (n : Byte) (s : State) : Result := aluImm .xor n s

/-- `OR A,n8` (R226). -/
def execOrAN8 (n : Byte) (s : State) : Result := aluImm .or n s

/-- `CP A,n8` (R229). -/
def execCpAN8 (n : Byte) (s : State) : Result := aluImm .cp n s

end Sys2Proof.Machine
end

