-- ==== Sys2Proof/Machine/RotateShiftBit.lean ====
section
/-! DEFINITION. Rotates, shifts and bit operations (spec/43_rotate_shift_bit.md): the shared operations,
then one meaning a row. -/

namespace Sys2Proof.Machine

/-! ## Shared operations -/

/-- An accumulator rotate: Z, N and H always 0, 4 cycles (R261 to R264). -/
def rotA (op : RotOp) (s : State) : Result :=
  let r := rotate op s.cpu.a s.flagC
  done 4 ((s.setReg .a r.1).setFlags false false false r.2)

/-- The register form of a CB rotate or shift, 8 cycles (R265). -/
def rotReg (op : RotOp) (dst : Reg8) (s : State) : Result :=
  let r := rotate op (s.reg dst) s.flagC
  done 8 ((s.setReg dst r.1).rotFlags r)

/-- The memory form of a CB rotate or shift: a read, then a write, 16 cycles (R265). -/
def rotMem (op : RotOp) (s : State) : Result :=
  s.readByte s.hl fun v =>
    let r := rotate op v s.flagC
    s.writeByte s.hl r.1 fun t => done 16 (t.rotFlags r)

/-- `BIT b,r8`: flags only, 8 cycles (R282). -/
def testBitReg (b : Fin 8) (r : Reg8) (s : State) : Result := done 8 (s.bitFlags (s.reg r) b)

/-- `BIT b,[HL]`: a read and no write, 12 cycles (R283). -/
def testBitMem (b : Fin 8) (s : State) : Result := s.readByte s.hl fun v => done 12 (s.bitFlags v b)

/-- `RES b,r8`: no flag, 8 cycles (R284). -/
def resetBitReg (b : Fin 8) (dst : Reg8) (s : State) : Result := done 8 (s.setReg dst (clearBit (s.reg dst) b))

/-- `RES b,[HL]`: a read, then a write, no flag, 16 cycles (R285). -/
def resetBitMem (b : Fin 8) (s : State) : Result :=
  s.readByte s.hl fun v => s.writeByte s.hl (clearBit v b) (done 16)

/-- `SET b,r8`: no flag, 8 cycles (R286). -/
def setBitReg (b : Fin 8) (dst : Reg8) (s : State) : Result := done 8 (s.setReg dst (putBit (s.reg dst) b))

/-- `SET b,[HL]`: a read, then a write, no flag, 16 cycles (R287). -/
def setBitMem (b : Fin 8) (s : State) : Result :=
  s.readByte s.hl fun v => s.writeByte s.hl (putBit v b) (done 16)

/-! ## Meanings -/

/-- `RLCA` (R261). -/
def execRlca (s : State) : Result := rotA .rlc s

/-- `RRCA` (R262). -/
def execRrca (s : State) : Result := rotA .rrc s

/-- `RLA` (R263). -/
def execRla (s : State) : Result := rotA .rl s

/-- `RRA` (R264). -/
def execRra (s : State) : Result := rotA .rr s

/-- `RLC B` (R266). -/
def execCbRlcB (s : State) : Result := rotReg .rlc .b s

/-- `RLC C` (R266). -/
def execCbRlcC (s : State) : Result := rotReg .rlc .c s

/-- `RLC D` (R266). -/
def execCbRlcD (s : State) : Result := rotReg .rlc .d s

/-- `RLC E` (R266). -/
def execCbRlcE (s : State) : Result := rotReg .rlc .e s

/-- `RLC H` (R266). -/
def execCbRlcH (s : State) : Result := rotReg .rlc .h s

/-- `RLC L` (R266). -/
def execCbRlcL (s : State) : Result := rotReg .rlc .l s

/-- `RLC [HL]` (R267). -/
def execCbRlcIndHl (s : State) : Result := rotMem .rlc s

/-- `RLC A` (R266). -/
def execCbRlcA (s : State) : Result := rotReg .rlc .a s

/-- `RRC B` (R268). -/
def execCbRrcB (s : State) : Result := rotReg .rrc .b s

/-- `RRC C` (R268). -/
def execCbRrcC (s : State) : Result := rotReg .rrc .c s

/-- `RRC D` (R268). -/
def execCbRrcD (s : State) : Result := rotReg .rrc .d s

/-- `RRC E` (R268). -/
def execCbRrcE (s : State) : Result := rotReg .rrc .e s

/-- `RRC H` (R268). -/
def execCbRrcH (s : State) : Result := rotReg .rrc .h s

/-- `RRC L` (R268). -/
def execCbRrcL (s : State) : Result := rotReg .rrc .l s

/-- `RRC [HL]` (R269). -/
def execCbRrcIndHl (s : State) : Result := rotMem .rrc s

/-- `RRC A` (R268). -/
def execCbRrcA (s : State) : Result := rotReg .rrc .a s

/-- `RL B` (R270). -/
def execCbRlB (s : State) : Result := rotReg .rl .b s

/-- `RL C` (R270). -/
def execCbRlC (s : State) : Result := rotReg .rl .c s

/-- `RL D` (R270). -/
def execCbRlD (s : State) : Result := rotReg .rl .d s

/-- `RL E` (R270). -/
def execCbRlE (s : State) : Result := rotReg .rl .e s

/-- `RL H` (R270). -/
def execCbRlH (s : State) : Result := rotReg .rl .h s

/-- `RL L` (R270). -/
def execCbRlL (s : State) : Result := rotReg .rl .l s

/-- `RL [HL]` (R271). -/
def execCbRlIndHl (s : State) : Result := rotMem .rl s

/-- `RL A` (R270). -/
def execCbRlA (s : State) : Result := rotReg .rl .a s

/-- `RR B` (R272). -/
def execCbRrB (s : State) : Result := rotReg .rr .b s

/-- `RR C` (R272). -/
def execCbRrC (s : State) : Result := rotReg .rr .c s

/-- `RR D` (R272). -/
def execCbRrD (s : State) : Result := rotReg .rr .d s

/-- `RR E` (R272). -/
def execCbRrE (s : State) : Result := rotReg .rr .e s

/-- `RR H` (R272). -/
def execCbRrH (s : State) : Result := rotReg .rr .h s

/-- `RR L` (R272). -/
def execCbRrL (s : State) : Result := rotReg .rr .l s

/-- `RR [HL]` (R273). -/
def execCbRrIndHl (s : State) : Result := rotMem .rr s

/-- `RR A` (R272). -/
def execCbRrA (s : State) : Result := rotReg .rr .a s

/-- `SLA B` (R274). -/
def execCbSlaB (s : State) : Result := rotReg .sla .b s

/-- `SLA C` (R274). -/
def execCbSlaC (s : State) : Result := rotReg .sla .c s

/-- `SLA D` (R274). -/
def execCbSlaD (s : State) : Result := rotReg .sla .d s

/-- `SLA E` (R274). -/
def execCbSlaE (s : State) : Result := rotReg .sla .e s

/-- `SLA H` (R274). -/
def execCbSlaH (s : State) : Result := rotReg .sla .h s

/-- `SLA L` (R274). -/
def execCbSlaL (s : State) : Result := rotReg .sla .l s

/-- `SLA [HL]` (R275). -/
def execCbSlaIndHl (s : State) : Result := rotMem .sla s

/-- `SLA A` (R274). -/
def execCbSlaA (s : State) : Result := rotReg .sla .a s

/-- `SRA B` (R276). -/
def execCbSraB (s : State) : Result := rotReg .sra .b s

/-- `SRA C` (R276). -/
def execCbSraC (s : State) : Result := rotReg .sra .c s

/-- `SRA D` (R276). -/
def execCbSraD (s : State) : Result := rotReg .sra .d s

/-- `SRA E` (R276). -/
def execCbSraE (s : State) : Result := rotReg .sra .e s

/-- `SRA H` (R276). -/
def execCbSraH (s : State) : Result := rotReg .sra .h s

/-- `SRA L` (R276). -/
def execCbSraL (s : State) : Result := rotReg .sra .l s

/-- `SRA [HL]` (R277). -/
def execCbSraIndHl (s : State) : Result := rotMem .sra s

/-- `SRA A` (R276). -/
def execCbSraA (s : State) : Result := rotReg .sra .a s

/-- `SWAP B` (R278). -/
def execCbSwapB (s : State) : Result := rotReg .swap .b s

/-- `SWAP C` (R278). -/
def execCbSwapC (s : State) : Result := rotReg .swap .c s

/-- `SWAP D` (R278). -/
def execCbSwapD (s : State) : Result := rotReg .swap .d s

/-- `SWAP E` (R278). -/
def execCbSwapE (s : State) : Result := rotReg .swap .e s

/-- `SWAP H` (R278). -/
def execCbSwapH (s : State) : Result := rotReg .swap .h s

/-- `SWAP L` (R278). -/
def execCbSwapL (s : State) : Result := rotReg .swap .l s

/-- `SWAP [HL]` (R279). -/
def execCbSwapIndHl (s : State) : Result := rotMem .swap s

/-- `SWAP A` (R278). -/
def execCbSwapA (s : State) : Result := rotReg .swap .a s

/-- `SRL B` (R280). -/
def execCbSrlB (s : State) : Result := rotReg .srl .b s

/-- `SRL C` (R280). -/
def execCbSrlC (s : State) : Result := rotReg .srl .c s

/-- `SRL D` (R280). -/
def execCbSrlD (s : State) : Result := rotReg .srl .d s

/-- `SRL E` (R280). -/
def execCbSrlE (s : State) : Result := rotReg .srl .e s

/-- `SRL H` (R280). -/
def execCbSrlH (s : State) : Result := rotReg .srl .h s

/-- `SRL L` (R280). -/
def execCbSrlL (s : State) : Result := rotReg .srl .l s

/-- `SRL [HL]` (R281). -/
def execCbSrlIndHl (s : State) : Result := rotMem .srl s

/-- `SRL A` (R280). -/
def execCbSrlA (s : State) : Result := rotReg .srl .a s

/-- `BIT 0,B` (R282). -/
def execBit0B (s : State) : Result := testBitReg 0 .b s

/-- `BIT 0,C` (R282). -/
def execBit0C (s : State) : Result := testBitReg 0 .c s

/-- `BIT 0,D` (R282). -/
def execBit0D (s : State) : Result := testBitReg 0 .d s

/-- `BIT 0,E` (R282). -/
def execBit0E (s : State) : Result := testBitReg 0 .e s

/-- `BIT 0,H` (R282). -/
def execBit0H (s : State) : Result := testBitReg 0 .h s

/-- `BIT 0,L` (R282). -/
def execBit0L (s : State) : Result := testBitReg 0 .l s

/-- `BIT 0,[HL]` (R283). -/
def execBit0IndHl (s : State) : Result := testBitMem 0 s

/-- `BIT 0,A` (R282). -/
def execBit0A (s : State) : Result := testBitReg 0 .a s

/-- `BIT 1,B` (R282). -/
def execBit1B (s : State) : Result := testBitReg 1 .b s

/-- `BIT 1,C` (R282). -/
def execBit1C (s : State) : Result := testBitReg 1 .c s

/-- `BIT 1,D` (R282). -/
def execBit1D (s : State) : Result := testBitReg 1 .d s

/-- `BIT 1,E` (R282). -/
def execBit1E (s : State) : Result := testBitReg 1 .e s

/-- `BIT 1,H` (R282). -/
def execBit1H (s : State) : Result := testBitReg 1 .h s

/-- `BIT 1,L` (R282). -/
def execBit1L (s : State) : Result := testBitReg 1 .l s

/-- `BIT 1,[HL]` (R283). -/
def execBit1IndHl (s : State) : Result := testBitMem 1 s

/-- `BIT 1,A` (R282). -/
def execBit1A (s : State) : Result := testBitReg 1 .a s

/-- `BIT 2,B` (R282). -/
def execBit2B (s : State) : Result := testBitReg 2 .b s

/-- `BIT 2,C` (R282). -/
def execBit2C (s : State) : Result := testBitReg 2 .c s

/-- `BIT 2,D` (R282). -/
def execBit2D (s : State) : Result := testBitReg 2 .d s

/-- `BIT 2,E` (R282). -/
def execBit2E (s : State) : Result := testBitReg 2 .e s

/-- `BIT 2,H` (R282). -/
def execBit2H (s : State) : Result := testBitReg 2 .h s

/-- `BIT 2,L` (R282). -/
def execBit2L (s : State) : Result := testBitReg 2 .l s

/-- `BIT 2,[HL]` (R283). -/
def execBit2IndHl (s : State) : Result := testBitMem 2 s

/-- `BIT 2,A` (R282). -/
def execBit2A (s : State) : Result := testBitReg 2 .a s

/-- `BIT 3,B` (R282). -/
def execBit3B (s : State) : Result := testBitReg 3 .b s

/-- `BIT 3,C` (R282). -/
def execBit3C (s : State) : Result := testBitReg 3 .c s

/-- `BIT 3,D` (R282). -/
def execBit3D (s : State) : Result := testBitReg 3 .d s

/-- `BIT 3,E` (R282). -/
def execBit3E (s : State) : Result := testBitReg 3 .e s

/-- `BIT 3,H` (R282). -/
def execBit3H (s : State) : Result := testBitReg 3 .h s

/-- `BIT 3,L` (R282). -/
def execBit3L (s : State) : Result := testBitReg 3 .l s

/-- `BIT 3,[HL]` (R283). -/
def execBit3IndHl (s : State) : Result := testBitMem 3 s

/-- `BIT 3,A` (R282). -/
def execBit3A (s : State) : Result := testBitReg 3 .a s

/-- `BIT 4,B` (R282). -/
def execBit4B (s : State) : Result := testBitReg 4 .b s

/-- `BIT 4,C` (R282). -/
def execBit4C (s : State) : Result := testBitReg 4 .c s

/-- `BIT 4,D` (R282). -/
def execBit4D (s : State) : Result := testBitReg 4 .d s

/-- `BIT 4,E` (R282). -/
def execBit4E (s : State) : Result := testBitReg 4 .e s

/-- `BIT 4,H` (R282). -/
def execBit4H (s : State) : Result := testBitReg 4 .h s

/-- `BIT 4,L` (R282). -/
def execBit4L (s : State) : Result := testBitReg 4 .l s

/-- `BIT 4,[HL]` (R283). -/
def execBit4IndHl (s : State) : Result := testBitMem 4 s

/-- `BIT 4,A` (R282). -/
def execBit4A (s : State) : Result := testBitReg 4 .a s

/-- `BIT 5,B` (R282). -/
def execBit5B (s : State) : Result := testBitReg 5 .b s

/-- `BIT 5,C` (R282). -/
def execBit5C (s : State) : Result := testBitReg 5 .c s

/-- `BIT 5,D` (R282). -/
def execBit5D (s : State) : Result := testBitReg 5 .d s

/-- `BIT 5,E` (R282). -/
def execBit5E (s : State) : Result := testBitReg 5 .e s

/-- `BIT 5,H` (R282). -/
def execBit5H (s : State) : Result := testBitReg 5 .h s

/-- `BIT 5,L` (R282). -/
def execBit5L (s : State) : Result := testBitReg 5 .l s

/-- `BIT 5,[HL]` (R283). -/
def execBit5IndHl (s : State) : Result := testBitMem 5 s

/-- `BIT 5,A` (R282). -/
def execBit5A (s : State) : Result := testBitReg 5 .a s

/-- `BIT 6,B` (R282). -/
def execBit6B (s : State) : Result := testBitReg 6 .b s

/-- `BIT 6,C` (R282). -/
def execBit6C (s : State) : Result := testBitReg 6 .c s

/-- `BIT 6,D` (R282). -/
def execBit6D (s : State) : Result := testBitReg 6 .d s

/-- `BIT 6,E` (R282). -/
def execBit6E (s : State) : Result := testBitReg 6 .e s

/-- `BIT 6,H` (R282). -/
def execBit6H (s : State) : Result := testBitReg 6 .h s

/-- `BIT 6,L` (R282). -/
def execBit6L (s : State) : Result := testBitReg 6 .l s

/-- `BIT 6,[HL]` (R283). -/
def execBit6IndHl (s : State) : Result := testBitMem 6 s

/-- `BIT 6,A` (R282). -/
def execBit6A (s : State) : Result := testBitReg 6 .a s

/-- `BIT 7,B` (R282). -/
def execBit7B (s : State) : Result := testBitReg 7 .b s

/-- `BIT 7,C` (R282). -/
def execBit7C (s : State) : Result := testBitReg 7 .c s

/-- `BIT 7,D` (R282). -/
def execBit7D (s : State) : Result := testBitReg 7 .d s

/-- `BIT 7,E` (R282). -/
def execBit7E (s : State) : Result := testBitReg 7 .e s

/-- `BIT 7,H` (R282). -/
def execBit7H (s : State) : Result := testBitReg 7 .h s

/-- `BIT 7,L` (R282). -/
def execBit7L (s : State) : Result := testBitReg 7 .l s

/-- `BIT 7,[HL]` (R283). -/
def execBit7IndHl (s : State) : Result := testBitMem 7 s

/-- `BIT 7,A` (R282). -/
def execBit7A (s : State) : Result := testBitReg 7 .a s

/-- `RES 0,B` (R284). -/
def execRes0B (s : State) : Result := resetBitReg 0 .b s

/-- `RES 0,C` (R284). -/
def execRes0C (s : State) : Result := resetBitReg 0 .c s

/-- `RES 0,D` (R284). -/
def execRes0D (s : State) : Result := resetBitReg 0 .d s

/-- `RES 0,E` (R284). -/
def execRes0E (s : State) : Result := resetBitReg 0 .e s

/-- `RES 0,H` (R284). -/
def execRes0H (s : State) : Result := resetBitReg 0 .h s

/-- `RES 0,L` (R284). -/
def execRes0L (s : State) : Result := resetBitReg 0 .l s

/-- `RES 0,[HL]` (R285). -/
def execRes0IndHl (s : State) : Result := resetBitMem 0 s

/-- `RES 0,A` (R284). -/
def execRes0A (s : State) : Result := resetBitReg 0 .a s

/-- `RES 1,B` (R284). -/
def execRes1B (s : State) : Result := resetBitReg 1 .b s

/-- `RES 1,C` (R284). -/
def execRes1C (s : State) : Result := resetBitReg 1 .c s

/-- `RES 1,D` (R284). -/
def execRes1D (s : State) : Result := resetBitReg 1 .d s

/-- `RES 1,E` (R284). -/
def execRes1E (s : State) : Result := resetBitReg 1 .e s

/-- `RES 1,H` (R284). -/
def execRes1H (s : State) : Result := resetBitReg 1 .h s

/-- `RES 1,L` (R284). -/
def execRes1L (s : State) : Result := resetBitReg 1 .l s

/-- `RES 1,[HL]` (R285). -/
def execRes1IndHl (s : State) : Result := resetBitMem 1 s

/-- `RES 1,A` (R284). -/
def execRes1A (s : State) : Result := resetBitReg 1 .a s

/-- `RES 2,B` (R284). -/
def execRes2B (s : State) : Result := resetBitReg 2 .b s

/-- `RES 2,C` (R284). -/
def execRes2C (s : State) : Result := resetBitReg 2 .c s

/-- `RES 2,D` (R284). -/
def execRes2D (s : State) : Result := resetBitReg 2 .d s

/-- `RES 2,E` (R284). -/
def execRes2E (s : State) : Result := resetBitReg 2 .e s

/-- `RES 2,H` (R284). -/
def execRes2H (s : State) : Result := resetBitReg 2 .h s

/-- `RES 2,L` (R284). -/
def execRes2L (s : State) : Result := resetBitReg 2 .l s

/-- `RES 2,[HL]` (R285). -/
def execRes2IndHl (s : State) : Result := resetBitMem 2 s

/-- `RES 2,A` (R284). -/
def execRes2A (s : State) : Result := resetBitReg 2 .a s

/-- `RES 3,B` (R284). -/
def execRes3B (s : State) : Result := resetBitReg 3 .b s

/-- `RES 3,C` (R284). -/
def execRes3C (s : State) : Result := resetBitReg 3 .c s

/-- `RES 3,D` (R284). -/
def execRes3D (s : State) : Result := resetBitReg 3 .d s

/-- `RES 3,E` (R284). -/
def execRes3E (s : State) : Result := resetBitReg 3 .e s

/-- `RES 3,H` (R284). -/
def execRes3H (s : State) : Result := resetBitReg 3 .h s

/-- `RES 3,L` (R284). -/
def execRes3L (s : State) : Result := resetBitReg 3 .l s

/-- `RES 3,[HL]` (R285). -/
def execRes3IndHl (s : State) : Result := resetBitMem 3 s

/-- `RES 3,A` (R284). -/
def execRes3A (s : State) : Result := resetBitReg 3 .a s

/-- `RES 4,B` (R284). -/
def execRes4B (s : State) : Result := resetBitReg 4 .b s

/-- `RES 4,C` (R284). -/
def execRes4C (s : State) : Result := resetBitReg 4 .c s

/-- `RES 4,D` (R284). -/
def execRes4D (s : State) : Result := resetBitReg 4 .d s

/-- `RES 4,E` (R284). -/
def execRes4E (s : State) : Result := resetBitReg 4 .e s

/-- `RES 4,H` (R284). -/
def execRes4H (s : State) : Result := resetBitReg 4 .h s

/-- `RES 4,L` (R284). -/
def execRes4L (s : State) : Result := resetBitReg 4 .l s

/-- `RES 4,[HL]` (R285). -/
def execRes4IndHl (s : State) : Result := resetBitMem 4 s

/-- `RES 4,A` (R284). -/
def execRes4A (s : State) : Result := resetBitReg 4 .a s

/-- `RES 5,B` (R284). -/
def execRes5B (s : State) : Result := resetBitReg 5 .b s

/-- `RES 5,C` (R284). -/
def execRes5C (s : State) : Result := resetBitReg 5 .c s

/-- `RES 5,D` (R284). -/
def execRes5D (s : State) : Result := resetBitReg 5 .d s

/-- `RES 5,E` (R284). -/
def execRes5E (s : State) : Result := resetBitReg 5 .e s

/-- `RES 5,H` (R284). -/
def execRes5H (s : State) : Result := resetBitReg 5 .h s

/-- `RES 5,L` (R284). -/
def execRes5L (s : State) : Result := resetBitReg 5 .l s

/-- `RES 5,[HL]` (R285). -/
def execRes5IndHl (s : State) : Result := resetBitMem 5 s

/-- `RES 5,A` (R284). -/
def execRes5A (s : State) : Result := resetBitReg 5 .a s

/-- `RES 6,B` (R284). -/
def execRes6B (s : State) : Result := resetBitReg 6 .b s

/-- `RES 6,C` (R284). -/
def execRes6C (s : State) : Result := resetBitReg 6 .c s

/-- `RES 6,D` (R284). -/
def execRes6D (s : State) : Result := resetBitReg 6 .d s

/-- `RES 6,E` (R284). -/
def execRes6E (s : State) : Result := resetBitReg 6 .e s

/-- `RES 6,H` (R284). -/
def execRes6H (s : State) : Result := resetBitReg 6 .h s

/-- `RES 6,L` (R284). -/
def execRes6L (s : State) : Result := resetBitReg 6 .l s

/-- `RES 6,[HL]` (R285). -/
def execRes6IndHl (s : State) : Result := resetBitMem 6 s

/-- `RES 6,A` (R284). -/
def execRes6A (s : State) : Result := resetBitReg 6 .a s

/-- `RES 7,B` (R284). -/
def execRes7B (s : State) : Result := resetBitReg 7 .b s

/-- `RES 7,C` (R284). -/
def execRes7C (s : State) : Result := resetBitReg 7 .c s

/-- `RES 7,D` (R284). -/
def execRes7D (s : State) : Result := resetBitReg 7 .d s

/-- `RES 7,E` (R284). -/
def execRes7E (s : State) : Result := resetBitReg 7 .e s

/-- `RES 7,H` (R284). -/
def execRes7H (s : State) : Result := resetBitReg 7 .h s

/-- `RES 7,L` (R284). -/
def execRes7L (s : State) : Result := resetBitReg 7 .l s

/-- `RES 7,[HL]` (R285). -/
def execRes7IndHl (s : State) : Result := resetBitMem 7 s

/-- `RES 7,A` (R284). -/
def execRes7A (s : State) : Result := resetBitReg 7 .a s

/-- `SET 0,B` (R286). -/
def execSet0B (s : State) : Result := setBitReg 0 .b s

/-- `SET 0,C` (R286). -/
def execSet0C (s : State) : Result := setBitReg 0 .c s

/-- `SET 0,D` (R286). -/
def execSet0D (s : State) : Result := setBitReg 0 .d s

/-- `SET 0,E` (R286). -/
def execSet0E (s : State) : Result := setBitReg 0 .e s

/-- `SET 0,H` (R286). -/
def execSet0H (s : State) : Result := setBitReg 0 .h s

/-- `SET 0,L` (R286). -/
def execSet0L (s : State) : Result := setBitReg 0 .l s

/-- `SET 0,[HL]` (R287). -/
def execSet0IndHl (s : State) : Result := setBitMem 0 s

/-- `SET 0,A` (R286). -/
def execSet0A (s : State) : Result := setBitReg 0 .a s

/-- `SET 1,B` (R286). -/
def execSet1B (s : State) : Result := setBitReg 1 .b s

/-- `SET 1,C` (R286). -/
def execSet1C (s : State) : Result := setBitReg 1 .c s

/-- `SET 1,D` (R286). -/
def execSet1D (s : State) : Result := setBitReg 1 .d s

/-- `SET 1,E` (R286). -/
def execSet1E (s : State) : Result := setBitReg 1 .e s

/-- `SET 1,H` (R286). -/
def execSet1H (s : State) : Result := setBitReg 1 .h s

/-- `SET 1,L` (R286). -/
def execSet1L (s : State) : Result := setBitReg 1 .l s

/-- `SET 1,[HL]` (R287). -/
def execSet1IndHl (s : State) : Result := setBitMem 1 s

/-- `SET 1,A` (R286). -/
def execSet1A (s : State) : Result := setBitReg 1 .a s

/-- `SET 2,B` (R286). -/
def execSet2B (s : State) : Result := setBitReg 2 .b s

/-- `SET 2,C` (R286). -/
def execSet2C (s : State) : Result := setBitReg 2 .c s

/-- `SET 2,D` (R286). -/
def execSet2D (s : State) : Result := setBitReg 2 .d s

/-- `SET 2,E` (R286). -/
def execSet2E (s : State) : Result := setBitReg 2 .e s

/-- `SET 2,H` (R286). -/
def execSet2H (s : State) : Result := setBitReg 2 .h s

/-- `SET 2,L` (R286). -/
def execSet2L (s : State) : Result := setBitReg 2 .l s

/-- `SET 2,[HL]` (R287). -/
def execSet2IndHl (s : State) : Result := setBitMem 2 s

/-- `SET 2,A` (R286). -/
def execSet2A (s : State) : Result := setBitReg 2 .a s

/-- `SET 3,B` (R286). -/
def execSet3B (s : State) : Result := setBitReg 3 .b s

/-- `SET 3,C` (R286). -/
def execSet3C (s : State) : Result := setBitReg 3 .c s

/-- `SET 3,D` (R286). -/
def execSet3D (s : State) : Result := setBitReg 3 .d s

/-- `SET 3,E` (R286). -/
def execSet3E (s : State) : Result := setBitReg 3 .e s

/-- `SET 3,H` (R286). -/
def execSet3H (s : State) : Result := setBitReg 3 .h s

/-- `SET 3,L` (R286). -/
def execSet3L (s : State) : Result := setBitReg 3 .l s

/-- `SET 3,[HL]` (R287). -/
def execSet3IndHl (s : State) : Result := setBitMem 3 s

/-- `SET 3,A` (R286). -/
def execSet3A (s : State) : Result := setBitReg 3 .a s

/-- `SET 4,B` (R286). -/
def execSet4B (s : State) : Result := setBitReg 4 .b s

/-- `SET 4,C` (R286). -/
def execSet4C (s : State) : Result := setBitReg 4 .c s

/-- `SET 4,D` (R286). -/
def execSet4D (s : State) : Result := setBitReg 4 .d s

/-- `SET 4,E` (R286). -/
def execSet4E (s : State) : Result := setBitReg 4 .e s

/-- `SET 4,H` (R286). -/
def execSet4H (s : State) : Result := setBitReg 4 .h s

/-- `SET 4,L` (R286). -/
def execSet4L (s : State) : Result := setBitReg 4 .l s

/-- `SET 4,[HL]` (R287). -/
def execSet4IndHl (s : State) : Result := setBitMem 4 s

/-- `SET 4,A` (R286). -/
def execSet4A (s : State) : Result := setBitReg 4 .a s

/-- `SET 5,B` (R286). -/
def execSet5B (s : State) : Result := setBitReg 5 .b s

/-- `SET 5,C` (R286). -/
def execSet5C (s : State) : Result := setBitReg 5 .c s

/-- `SET 5,D` (R286). -/
def execSet5D (s : State) : Result := setBitReg 5 .d s

/-- `SET 5,E` (R286). -/
def execSet5E (s : State) : Result := setBitReg 5 .e s

/-- `SET 5,H` (R286). -/
def execSet5H (s : State) : Result := setBitReg 5 .h s

/-- `SET 5,L` (R286). -/
def execSet5L (s : State) : Result := setBitReg 5 .l s

/-- `SET 5,[HL]` (R287). -/
def execSet5IndHl (s : State) : Result := setBitMem 5 s

/-- `SET 5,A` (R286). -/
def execSet5A (s : State) : Result := setBitReg 5 .a s

/-- `SET 6,B` (R286). -/
def execSet6B (s : State) : Result := setBitReg 6 .b s

/-- `SET 6,C` (R286). -/
def execSet6C (s : State) : Result := setBitReg 6 .c s

/-- `SET 6,D` (R286). -/
def execSet6D (s : State) : Result := setBitReg 6 .d s

/-- `SET 6,E` (R286). -/
def execSet6E (s : State) : Result := setBitReg 6 .e s

/-- `SET 6,H` (R286). -/
def execSet6H (s : State) : Result := setBitReg 6 .h s

/-- `SET 6,L` (R286). -/
def execSet6L (s : State) : Result := setBitReg 6 .l s

/-- `SET 6,[HL]` (R287). -/
def execSet6IndHl (s : State) : Result := setBitMem 6 s

/-- `SET 6,A` (R286). -/
def execSet6A (s : State) : Result := setBitReg 6 .a s

/-- `SET 7,B` (R286). -/
def execSet7B (s : State) : Result := setBitReg 7 .b s

/-- `SET 7,C` (R286). -/
def execSet7C (s : State) : Result := setBitReg 7 .c s

/-- `SET 7,D` (R286). -/
def execSet7D (s : State) : Result := setBitReg 7 .d s

/-- `SET 7,E` (R286). -/
def execSet7E (s : State) : Result := setBitReg 7 .e s

/-- `SET 7,H` (R286). -/
def execSet7H (s : State) : Result := setBitReg 7 .h s

/-- `SET 7,L` (R286). -/
def execSet7L (s : State) : Result := setBitReg 7 .l s

/-- `SET 7,[HL]` (R287). -/
def execSet7IndHl (s : State) : Result := setBitMem 7 s

/-- `SET 7,A` (R286). -/
def execSet7A (s : State) : Result := setBitReg 7 .a s

end Sys2Proof.Machine
end

