-- ==== Sys2Proof/Machine/System.lean ====
section
/-! DEFINITION. System and CPU-control instructions (spec/45_system.md): the shared operations, then one
meaning a row. No instruction of this family changes a flag, but for what a CB row does after 0xCB. -/

namespace Sys2Proof.Machine

/-! ## Shared operations -/

/-- NOP, 4 cycles (R330). -/
def doNothing (s : State) : Result := done 4 s

/-- HALT, 4 cycles: with IME = 0 and an interrupt pending the HALT bug, else the CPU halts (R331). -/
def enterHalt (s : State) : Result :=
  if !s.cpu.ime && s.pending != 0 then done 4 (s.setHaltBug true) else done 4 (s.setHalted true)

/-- STOP: a fault in the Fault mode; in Nop2 the second byte is fetched and ignored, 4 cycles (R332). -/
def stopOrSkip (s : State) : Result :=
  match s.params.stopMode with
  | .fault => .fault (s.stop (.unmodelled .stop s.cpu.opPc))
  | .nop2 => s.readByte s.cpu.pc fun _ => done 4 (s.setPc (s.cpu.pc + 1))

/-- DI: `IME <- 0; ime_scheduled <- 0`, 4 cycles (R333). -/
def disableInterrupts (s : State) : Result := done 4 (s.setIme false false)

/-- EI, 4 cycles: at once with EI_DELAY = 0, else scheduled (R334). -/
def enableInterrupts (s : State) : Result :=
  if s.params.eiDelay then done 4 (s.setIme s.cpu.ime true)
  else done 4 (s.setIme true s.cpu.imeScheduled)

/-- `raise DecodeError(op, pc)`, with the opcode's address (R336); the fetch's PC increment stays. -/
def raiseDecodeError (op : Byte) (s : State) : Result := .fault (s.stop (.decodeError op s.cpu.opPc))

/-- The register an r8 field names; `none` is `[HL]` (30_encoding.md R133). -/
def r8Field (v : BitVec 3) : Option Reg8 :=
  match v.toNat with
  | 0 => some .b
  | 1 => some .c
  | 2 => some .d
  | 3 => some .e
  | 4 => some .h
  | 5 => some .l
  | 6 => none
  | _ => some .a

/-- The operation of CB group 0 (30_encoding.md R137). -/
def rotField (v : BitVec 3) : RotOp :=
  match v.toNat with
  | 0 => .rlc
  | 1 => .rrc
  | 2 => .rl
  | 3 => .rr
  | 4 => .sla
  | 5 => .sra
  | 6 => .swap
  | _ => .srl

/-- "Execute the rule of CB row cbop" by the row's fields: group `x`, operation or bit `y`, operand `z`
(45_system.md R335, 30_encoding.md R132). -/
def runCb (cbop : Byte) (s : State) : Result :=
  let y := cbop.extractLsb' 3 3
  match (cbop.extractLsb' 6 2).toNat, r8Field (cbop.extractLsb' 0 3) with
  | 0, some r => rotReg (rotField y) r s
  | 0, none => rotMem (rotField y) s
  | 1, some r => testBitReg y.toFin r s
  | 1, none => testBitMem y.toFin s
  | 2, some r => resetBitReg y.toFin r s
  | 2, none => resetBitMem y.toFin s
  | _, some r => setBitReg y.toFin r s
  | _, none => setBitMem y.toFin s

/-! ## Meanings -/

/-- `NOP` (R330). -/
def execNop (s : State) : Result := doNothing s

/-- `STOP` (R332). -/
def execStop (s : State) : Result := stopOrSkip s

/-- `HALT` (R331). -/
def execHalt (s : State) : Result := enterHalt s

/-- `PREFIX CB` (R335). -/
def execPrefixCb (cbop : Byte) (s : State) : Result := runCb cbop s

/-- `ILLEGAL_D3` (R336). -/
def execIllegalD3 (s : State) : Result := raiseDecodeError 0xD3 s

/-- `ILLEGAL_DB` (R336). -/
def execIllegalDB (s : State) : Result := raiseDecodeError 0xDB s

/-- `ILLEGAL_DD` (R336). -/
def execIllegalDD (s : State) : Result := raiseDecodeError 0xDD s

/-- `ILLEGAL_E3` (R336). -/
def execIllegalE3 (s : State) : Result := raiseDecodeError 0xE3 s

/-- `ILLEGAL_E4` (R336). -/
def execIllegalE4 (s : State) : Result := raiseDecodeError 0xE4 s

/-- `ILLEGAL_EB` (R336). -/
def execIllegalEB (s : State) : Result := raiseDecodeError 0xEB s

/-- `ILLEGAL_EC` (R336). -/
def execIllegalEC (s : State) : Result := raiseDecodeError 0xEC s

/-- `ILLEGAL_ED` (R336). -/
def execIllegalED (s : State) : Result := raiseDecodeError 0xED s

/-- `DI` (R333). -/
def execDi (s : State) : Result := disableInterrupts s

/-- `ILLEGAL_F4` (R336). -/
def execIllegalF4 (s : State) : Result := raiseDecodeError 0xF4 s

/-- `EI` (R334). -/
def execEi (s : State) : Result := enableInterrupts s

/-- `ILLEGAL_FC` (R336). -/
def execIllegalFC (s : State) : Result := raiseDecodeError 0xFC s

/-- `ILLEGAL_FD` (R336). -/
def execIllegalFD (s : State) : Result := raiseDecodeError 0xFD s

end Sys2Proof.Machine
end

