-- ==== Sys2Proof/Machine/Fetch.lean ====
section
/-! DEFINITION. Fetching an instruction (00_scope.md R12, R15, 60_exceptions.md R355), and placing one
where the next step fetches it. -/

namespace Sys2Proof.Machine

/-- `Fetch8()` (00_scope.md R12). -/
def State.fetch8 (s : State) : Except Fault (Byte × State) :=
  match s.load s.cpu.pc with
  | .ok v => .ok (v, s.setPc (s.cpu.pc + 1))
  | .error r => .error r

/-- `FetchOpcode()`: under the HALT bug PC is not incremented, once (60_exceptions.md R355). -/
def State.fetchOpcode (s : State) : Except Fault (Byte × State) :=
  match s.load s.cpu.pc with
  | .ok v => .ok (v, if s.cpu.haltBug then s.setHaltBug false else s.setPc (s.cpu.pc + 1))
  | .error r => .error r

/-- The bytes after the opcode `op` that its rule names, in address order (00_scope.md R15); zero where
it names none. -/
def State.fetchOperands (s : State) (op : Byte) : Except Fault (Byte × Byte × State) :=
  match operandCount op with
  | 0 => .ok (0, 0, s)
  | 1 =>
    match s.fetch8 with
    | .ok (x, t) => .ok (x, 0, t)
    | .error r => .error r
  | _ =>
    match s.fetch8 with
    | .error r => .error r
    | .ok (x, t) =>
      match t.fetch8 with
      | .ok (y, u) => .ok (x, y, u)
      | .error r => .error r

/-- Fetch and decode the instruction at PC: `pc0` noted, the opcode, then its operand bytes
(60_exceptions.md R354, R356). -/
def State.fetchInstr (s : State) : Except Fault (Instr × State) :=
  match (s.setOpPc s.cpu.pc).fetchOpcode with
  | .error r => .error r
  | .ok (op, t) =>
    match t.fetchOperands op with
    | .error r => .error r
    | .ok (x, y, u) => .ok (decodeBytes op x y, u)

/-! ## Placing an instruction -/

/-- Put a byte where the controller's ROM read of address `a` takes it from: what loading a cartridge
does, and no step can. -/
def Cart.pokeRom (c : Cart) (a : Nat) (v : Byte) : Cart :=
  let i :=
    match c.mbc with
    | .romOnly => a
    | _ =>
      if a < Config.romBankSize then 0 % c.romBankCount * Config.romBankSize + a
      else c.windowBank % c.romBankCount * Config.romBankSize + (a - Config.romBankSize)
  { c with rom := c.rom.write i v, romSize := max c.romSize (i + 1) }

/-- Put a byte where a fetch at `a` reads it: the boot image, the ROM image, or, as a store does, RAM and
registers. A store that the machine refuses leaves the state as it is. -/
def State.placeByte (s : State) (a : Word) (v : Byte) : State :=
  if s.io.bootEnabled && decide (a.toNat ≤ 0x00FF) then
    { s with params := { s.params with bootImage := s.params.bootImage.write a.toNat v } }
  else if a.toNat ≤ 0x7FFF then { s with cart := s.cart.pokeRom a.toNat v }
  else if 0xFEA0 ≤ a.toNat ∧ a.toNat ≤ 0xFEFF then s.setArray a.toNat v
  else
    match s.memWrite a v with
    | .ok t => t
    | .error _ => s

/-- Let the next step fetch: no fault recorded, not halted, no HALT bug armed and no interrupt that would
be dispatched instead. Right after reset this changes nothing. -/
def State.readyToFetch (s : State) : State :=
  let t := (({ s with fault := none }).setHalted false).setHaltBug false
  if t.cpu.ime && t.pending != 0 then t.setIme false t.cpu.imeScheduled else t

/-- Three bytes placed at PC, with the next step ready to fetch them. -/
def State.placeInstr (s : State) (x y z : Byte) : State :=
  ((s.readyToFetch.placeByte s.cpu.pc x).placeByte (s.cpu.pc + 1) y).placeByte (s.cpu.pc + 2) z

end Sys2Proof.Machine
end

