-- ==== Sys2Proof/Machine/Render.lean ====
section
/-! DEFINITION. What the PPU draws for one line: background, window and sprites (60_exceptions.md R404,
R405, 20_memory.md R62, R63). Everything here is a function of VRAM, OAM and the PPU's registers. -/

namespace Sys2Proof.Machine

/-- A byte of VRAM by its offset from 0x8000. -/
def State.vram (s : State) (o : Nat) : Byte := s.array (0x8000 + o)

/-- A byte of OAM by its offset from 0xFE00. -/
def State.oam (s : State) (o : Nat) : Byte := s.array (0xFE00 + o)

/-- A bit of LCDC. -/
def State.lcdcBit (s : State) (i : Nat) : Bool := s.ppu.lcdc.getLsbD i

/-- `Pix(t, x, y)`: the colour index of column `x`, row `y` of tile `t` (20_memory.md R62). -/
def State.tilePixel (s : State) (t x y : Nat) : Nat :=
  bit ((s.vram (16 * t + 2 * y + 1)).getLsbD (7 - x)) * 2 + bit ((s.vram (16 * t + 2 * y)).getLsbD (7 - x))

/-- `TileNum(t)`: the tile a map entry names (60_exceptions.md R404). -/
def State.tileNumber (s : State) (t : Byte) : Nat :=
  if s.lcdcBit 4 then t.toNat else if t.toNat < 128 then 256 + t.toNat else t.toNat

/-- The colour index at a point of a tile map, by the LCDC bit that selects the map: 0x9C00 or 0x9800
(60_exceptions.md R404). -/
def State.mapPixel (s : State) (select : Bool) (x y : Nat) : Nat :=
  let base := if select then 0x1C00 else 0x1800
  let entry := s.vram (base + 32 * (y / 8) + x / 8)
  s.tilePixel (s.tileNumber entry) (x % 8) (y % 8)

/-- The window covers column `x` of line `ly` (60_exceptions.md R404). -/
def State.windowCovers (s : State) (ly x : Nat) : Bool :=
  s.lcdcBit 0 && s.lcdcBit 5 && decide (s.ppu.wy.toNat ≤ ly) && decide (s.ppu.wx.toNat ≤ x + 7)

/-- `bg_index[x]` of line `ly`: the window over the background, 0 with both off (60_exceptions.md R404). -/
def State.bgIndex (s : State) (ly x : Nat) : Nat :=
  if s.windowCovers ly x then
    s.mapPixel (s.lcdcBit 6) (x + 7 - s.ppu.wx.toNat) (ly - s.ppu.wy.toNat)
  else if s.lcdcBit 0 then
    s.mapPixel (s.lcdcBit 3) ((x + s.ppu.scx.toNat) % 256) ((ly + s.ppu.scy.toNat) % 256)
  else 0

/-- `(pal >> (2 * i)) & 3` (10_state.md R44). -/
def shade (pal : Byte) (i : Nat) : BitVec 2 := (pal >>> (2 * i)).setWidth 2

/-- The shade of the background and window at column `x` of line `ly` (60_exceptions.md R404). -/
def State.bgShade (s : State) (ly x : Nat) : BitVec 2 :=
  if s.lcdcBit 0 then shade s.ppu.bgp (s.bgIndex ly x) else 0

/-- The height of sprites (60_exceptions.md R405). -/
def State.spriteHeight (s : State) : Nat := if s.lcdcBit 2 then 16 else 8

/-- Sprite `n` is on line `ly`: `y - 16 <= ly < y - 16 + h` (60_exceptions.md R405). -/
def State.spriteOnLine (s : State) (ly n : Nat) : Bool :=
  let y := (s.oam (4 * n)).toNat
  decide (y ≤ ly + 16) && decide (ly + 16 < y + s.spriteHeight)

/-- The sprites kept for line `ly`: the first 10 on it in OAM order (60_exceptions.md R405). -/
def State.keptSprites (s : State) (ly : Nat) : List Nat :=
  ((List.range 40).filter (s.spriteOnLine ly)).take 10

/-- What sprite `n`, which is on line `ly`, draws at column `x`: nothing outside its 8 columns, where it
is transparent, or where it hides behind the background (60_exceptions.md R405). -/
def State.spriteShade (s : State) (ly n x : Nat) : Option (BitVec 2) :=
  let y := (s.oam (4 * n)).toNat
  let left := (s.oam (4 * n + 1)).toNat
  let number := s.oam (4 * n + 2)
  let attr := s.oam (4 * n + 3)
  if left ≤ x + 8 ∧ x < left then
    let col := x + 8 - left
    let row0 := ly + 16 - y
    let row := if attr.getLsbD 6 then s.spriteHeight - 1 - row0 else row0
    let tile := if s.lcdcBit 2 then (number &&& 0xFE).toNat + row / 8 else number.toNat
    let c := s.tilePixel tile (if attr.getLsbD 5 then 7 - col else col) (row % 8)
    if c = 0 then none
    else if attr.getLsbD 7 ∧ s.bgIndex ly x ≠ 0 then none
    else some (shade (if attr.getLsbD 4 then s.ppu.obp1 else s.ppu.obp0) c)
  else none

/-- The shade of column `x` of line `ly`: the sprites drawn over the background, highest OAM index first,
each covering what is there (60_exceptions.md R404, R405). -/
def State.pixel (s : State) (ly x : Nat) : BitVec 2 :=
  if s.lcdcBit 1 then
    (s.keptSprites ly).reverse.foldl (fun under n => (s.spriteShade ly n x).getD under) (s.bgShade ly x)
  else s.bgShade ly x

/-- Columns `0` to `n - 1` of line `ly` written to a framebuffer. -/
def State.drawColumns (s : State) (ly : Nat) : Nat → Cells 2 → Cells 2
  | 0, f => f
  | n + 1, f => (s.drawColumns ly n f).set (Config.screenWidth * ly + n) (s.pixel ly n)

/-- `RenderLine(ly)` (60_exceptions.md R404). -/
def State.renderLine (s : State) (ly : Nat) : State :=
  { s with ppu := { s.ppu with frame := s.drawColumns ly Config.screenWidth s.ppu.frame } }

end Sys2Proof.Machine
end

