-- ==== Sys2Proof/Machine/Timer.lean ====
section
/-! DEFINITION. The divider and timer (60_exceptions.md section 5). -/

namespace Sys2Proof.Machine

/-- TAC bit 2: the timer runs (10_state.md R39). -/
def Timer.enabled (t : Timer) : Bool := t.tac.getLsbD 2

/-- The cycles a TIMA increment takes, by TAC bits 1-0 (10_state.md R39). -/
def Timer.threshold (t : Timer) : Nat :=
  match (t.tac.extractLsb' 0 2).toNat with
  | 0 => 1024
  | 1 => 16
  | 2 => 64
  | _ => 256

/-- One TIMA increment, and whether it overflowed: on overflow TIMA is reloaded from TMA
(60_exceptions.md R420). -/
def Timer.tick (t : Timer) : Timer × Bool :=
  if t.tima = 0xFF then ({ t with tima := t.tma }, true) else ({ t with tima := t.tima + 1 }, false)

/-- The `while` loop of 60_exceptions.md R420, and whether any round of it overflowed. Each round takes a
threshold off `tima_acc`, so `tima_acc` rounds are always enough. -/
def Timer.drain : Nat → Timer → Timer × Bool
  | 0, t => (t, false)
  | n + 1, t =>
    if t.threshold ≤ t.timaAcc then
      let r := Timer.tick { t with timaAcc := t.timaAcc - t.threshold }
      let q := Timer.drain n r.1
      (q.1, r.2 || q.2)
    else (t, false)

/-- `timer.advance(n)` on the timer, and whether it raises its interrupt (60_exceptions.md R420). -/
def Timer.advance (t : Timer) (n : Nat) : Timer × Bool :=
  let t1 := { t with divCounter := t.divCounter + BitVec.ofNat 16 n }
  if t1.enabled then
    let t2 := { t1 with timaAcc := t1.timaAcc + n }
    Timer.drain t2.timaAcc t2
  else (t1, false)

/-- `timer.advance(n)` on the machine: an overflow sets IF bit 2 (60_exceptions.md R420). -/
def State.timerAdvance (s : State) (n : Nat) : State :=
  let r := s.timer.advance n
  let t := { s with timer := r.1 }
  if r.2 then t.raise 2 else t

end Sys2Proof.Machine
end

