-- ==== Sys2Proof/Machine/PpuSteps.lean ====
section
/-! DEFINITION. The PPU's scanline state machine (60_exceptions.md R401 to R403, R409). -/

namespace Sys2Proof.Machine

/-- The cycles a mode lasts; of VBlank, each of its lines (60_exceptions.md R401). -/
def PpuMode.length : PpuMode → Nat
  | .oamScan => 80
  | .pixelTransfer => 172
  | .hBlank => 204
  | .vBlank => 456

/-- The PPU enters a mode. -/
def State.enterMode (s : State) (m : PpuMode) : State := { s with ppu := { s.ppu with mode := m } }

/-- A STAT interrupt source: IF bit 1 is set if STAT enable bit `i` is (60_exceptions.md R402). -/
def State.statInterrupt (s : State) (i : Nat) : State :=
  if s.ppu.statEnables.getLsbD i then s.raise 1 else s

/-- `SetLY(v)` (60_exceptions.md R403). -/
def State.setLy (s : State) (v : Byte) : State :=
  let t := { s with ppu := { s.ppu with ly := v, coincidence := v == s.ppu.lyc } }
  if v == s.ppu.lyc then t.statInterrupt 6 else t

/-- `modeclock <- modeclock - n`. -/
def State.takeClock (s : State) (n : Nat) : State :=
  { s with ppu := { s.ppu with modeclock := s.ppu.modeclock - n } }

/-- `IF[0] <- 1; frame_ready <- 1` on entry to VBlank (60_exceptions.md R402, R406). -/
def State.enterVBlank (s : State) : State :=
  let t := (s.enterMode .vBlank).raise 0
  ({ t with ppu := { t.ppu with frameReady := true } }).statInterrupt 4

/-- The end of the current mode, once its length has been taken off `modeclock` (60_exceptions.md R402). -/
def State.endMode (s : State) : State :=
  match s.ppu.mode with
  | .oamScan => s.enterMode .pixelTransfer
  | .pixelTransfer => ((s.renderLine s.ppu.ly.toNat).enterMode .hBlank).statInterrupt 3
  | .hBlank =>
    let t := s.setLy (s.ppu.ly + 1)
    if t.ppu.ly = 144 then t.enterVBlank else (t.enterMode .oamScan).statInterrupt 5
  | .vBlank =>
    if s.ppu.ly = 153 then ((s.setLy 0).enterMode .oamScan).statInterrupt 5
    else s.setLy (s.ppu.ly + 1)

/-- The loop of 60_exceptions.md R402. Each round takes at least 80 off `modeclock`, so `modeclock` rounds
are always enough. -/
def State.ppuLoop : Nat → State → State
  | 0, s => s
  | n + 1, s =>
    if s.ppu.mode.length ≤ s.ppu.modeclock then
      State.ppuLoop n (s.takeClock s.ppu.mode.length).endMode
    else s

/-- `ppu.step(n)` (60_exceptions.md R402); nothing while the LCD is off (R409). -/
def State.ppuStep (s : State) (n : Nat) : State :=
  if s.ppu.lcdOn then
    let t := { s with ppu := { s.ppu with modeclock := s.ppu.modeclock + n } }
    State.ppuLoop t.ppu.modeclock t
  else s

/-- The devices after a CPU step: the timer, then the PPU, each by the count the step returned
(60_exceptions.md R351). -/
def State.devices (s : State) : State := (s.timerAdvance s.cpu.cycles).ppuStep s.cpu.cycles

end Sys2Proof.Machine
end

