-- ==== Sys2Proof/Machine/CpuStep.lean ====
section
/-! DEFINITION. The parts of a step: the CPU's `step()` (60_exceptions.md R354), and the devices after
it (R351). -/

namespace Sys2Proof.Machine

/-- The end of an instruction's step: an EI that was scheduled when the step began, and still is, takes
effect (60_exceptions.md R357). -/
def State.finishEi (t : State) (scheduled : Bool) : State :=
  if scheduled && t.cpu.imeScheduled then t.setIme true false else t

/-- Go on with the next state, if there is one. -/
def onNext (r : Result) (f : State → State) : Result :=
  match r with
  | .next t => .next (f t)
  | .fault e => .fault e
  | .refused e => .refused e

/-- Fetch, decode and execute the instruction at PC (60_exceptions.md R354). -/
def runInstruction (s : State) : Result :=
  andThen s.fetchInstr fun r => onNext (exec r.1 r.2) fun t => t.finishEi s.cpu.imeScheduled

/-- The CPU's `step()` (60_exceptions.md R354): the recorded fault, with nothing changed (R380), a dispatch,
a HALT tick, or an instruction, with the wake before it. -/
def cpuStep (s : State) : Result :=
  match s.fault with
  | some r => .fault (s.stop r)
  | none =>
    if s.cpu.ime && s.pending != 0 then s.dispatch (lowestPending s.pending)
    else if s.cpu.halted && s.pending == 0 then done Config.haltTickCycles s
    else runInstruction (s.setHalted false)

end Sys2Proof.Machine
end

