-- ==== Sys2Proof/Machine/Step.lean ====
section
/-! DEFINITION. The machine's transition: the CPU's step, then the timer, then the PPU
(60_exceptions.md R351). -/

namespace Sys2Proof.Machine

/-- "The composition `step; timer.advance; ppu.step` is the machine's transition" (60_exceptions.md R351). -/
def step (s : State) : Host.Outcome State Fault Refusal := onNext (cpuStep s) State.devices

/-- The state with the instruction whose bits spec/opcode_table.json numbers `w` where `step` fetches its
next instruction: it stands for loading a program from outside the machine (log entry 7). -/
def State.withFetchWord (s : State) (nbits w : Nat) : State :=
  s.placeInstr (tableBytes nbits w).1 (tableBytes nbits w).2.1 (tableBytes nbits w).2.2

end Sys2Proof.Machine
end

