-- ==== Sys2Proof/Machine/HostOps.lean ====
section
/-! DEFINITION. What the host may do between steps (60_exceptions.md R441); `step`, `timer.advance` and
`ppu.step` are `Machine.step`. -/

namespace Sys2Proof.Machine

/-- `frame_ready()`: the answer, and the state with the bit cleared (60_exceptions.md R406, R441). -/
def State.hostFrameReady (s : State) : Bool × State :=
  (s.ppu.frameReady, { s with ppu := { s.ppu with frameReady := false } })

/-- `read_framebuffer()`: the shade of a column of a row (60_exceptions.md R406, R441). -/
def State.hostPixel (s : State) (row column : Nat) : BitVec 2 :=
  s.ppu.frame.get (Config.screenWidth * row + column)

/-- `set_joypad(f)` (60_exceptions.md R440, R441). -/
def State.hostSetJoypad (s : State) (j : Joypad) : State := { s with io := { s.io with joypad := j } }

/-- `RequestJoypad()`: IF bit 4 (60_exceptions.md R371, R441). -/
def State.hostRequestJoypad (s : State) : State := s.raise 4

/-- One iteration of the host's loop (60_exceptions.md R351, R380): on a fault the devices do not advance,
and the machine is in the faulted state, which keeps the record and what the step did before the raise. -/
def State.hostIterate (s : State) : State :=
  match step s with
  | .next t => t
  | .fault r => r.left
  | .refused _ => s

end Sys2Proof.Machine
end

