-- ==== Sys2Proof/Machine/Launch.lean ====
section
/-! DEFINITION. The reset procedure (70_reset_and_hazards.md R450): a run is built from the launch
parameters of 00_scope.md R7. -/

namespace Sys2Proof.Machine

/-- `boot_mode` (00_scope.md R7); the image of BootRom is by index 0 to 255. -/
inductive BootMode where
  | bootRom (image : Memory)
  | postBoot
  deriving DecidableEq, Repr

/-- `power_on_draw`: what no reset value fixes (10_state.md R49, 92_eei_decisions.md D33). -/
structure PowerOn where
  a : Byte
  f : Byte
  b : Byte
  c : Byte
  d : Byte
  e : Byte
  h : Byte
  l : Byte
  sp : Word
  /-- VRAM, WRAM, OAM, the unusable region and HRAM, by address. -/
  mem : Memory
  /-- MBC2's built-in RAM, which the spec names neither as a draw nor as external RAM that `ram_init` gives.
  DESIGN CHOICE (log entry 16), safe. -/
  ram4 : Cells 4
  deriving DecidableEq, Repr

/-- The launch parameters (00_scope.md R7). -/
structure Launch where
  mbcType : Byte
  romBytes : Memory
  romSize : Nat
  romBankCount : Nat
  ramBankCount : Nat
  /-- `ram_init`, or a draw where it is not given: the external RAM buffer's contents, not MBC2's RAM (log
  entry 16). -/
  ramInit : Memory
  /-- The length of the external RAM buffer: of `ram_init` where it is given; of a draw the spec gives none, and
  nowhere ties it to `ram_bank_count` (00_scope.md R7, 20_memory.md R82). A parameter of its own. DESIGN CHOICE
  (log entry 17), safe. -/
  ramSize : Nat
  bootMode : BootMode
  eiDelay : Bool
  stopMode : Config.StopMode
  remapZero : Bool
  joypad : Joypad
  powerOn : PowerOn
  endPc : Word
  deriving DecidableEq, Repr

/-- `UnsupportedCartridge(mbc_type)`: the launch fails and no machine exists (60_exceptions.md R383). -/
inductive LaunchError where
  | unsupportedCartridge (mbcType : Byte)
  deriving DecidableEq, Repr

/-- The controller a header type code selects, its registers at their reset values (20_memory.md R80, R90,
R100, R110, R115). -/
def mbcOfType (t : Byte) : Option Mbc :=
  if t ∈ [0x00#8, 0x08#8, 0x09#8] then some .romOnly
  else if t ∈ [0x01#8, 0x02#8, 0x03#8] then some (.mbc1 false 1 0 false)
  else if t ∈ [0x05#8, 0x06#8] then some (.mbc2 false 1)
  else if t ∈ [0x0F#8, 0x10#8, 0x11#8, 0x12#8, 0x13#8] then some (.mbc3 false 1 0)
  else if t ∈ [0x19#8, 0x1A#8, 0x1B#8, 0x1C#8, 0x1D#8, 0x1E#8] then some (.mbc5 false 1 0)
  else none

/-- Sparse data in its canonical form from any list of writes, in order. -/
def Cells.ofWrites {w : Nat} (l : Cells w) : Cells w :=
  l.foldl (fun m e => Cells.set m e.1 e.2) []

/-- An address whose byte of the flat array is a draw at power-on (10_state.md R49). -/
def drawnAddress (a : Nat) : Bool :=
  decide (0x8000 ≤ a ∧ a ≤ 0x9FFF) || decide (0xC000 ≤ a ∧ a ≤ 0xDFFF)
    || decide (0xFE00 ≤ a ∧ a ≤ 0xFEFF) || decide (0xFF80 ≤ a ∧ a ≤ 0xFFFE)

/-- The flat array at power-on: the drawn bytes, and 0x00 at every other I/O address (10_state.md R49). -/
def PowerOn.array (p : PowerOn) : Memory :=
  Cells.ofWrites (w := 8) (p.mem.filter fun e => drawnAddress e.1)

/-- The BootRom column of 10_state.md R49 for the CPU (70_reset_and_hazards.md R451). -/
def PowerOn.cpu (p : PowerOn) : Cpu :=
  { a := p.a, f := p.f &&& 0xF0, b := p.b, c := p.c, d := p.d, e := p.e, h := p.h, l := p.l
    sp := p.sp, pc := 0x0000
    ime := false, imeScheduled := false, halted := false, haltBug := false
    opPc := 0x0000, cycles := 0 }

/-- The BootRom column of 10_state.md R49 for the MMU registers. -/
def Io.bootRom (j : Joypad) : Io :=
  { ie := 0x00, ifl := 0x00, p1 := 0b11, joypad := j, sb := 0x00, sc := 0x00
    dma := 0x00, boot := 0x00, bootEnabled := true }

/-- The BootRom column of 10_state.md R49 for the timer. -/
def Timer.bootRom : Timer := { divCounter := 0x0000, timaAcc := 0, tima := 0x00, tma := 0x00, tac := 0x00 }

/-- The BootRom column of 10_state.md R49 for the PPU: the LCD is off. -/
def Ppu.bootRom : Ppu :=
  { lcdc := 0x00, statEnables := 0x00, scy := 0x00, scx := 0x00, ly := 0, lyc := 0x00
    bgp := 0x00, obp0 := 0x00, obp1 := 0x00, wy := 0x00, wx := 0x00
    mode := .hBlank, modeclock := 0, coincidence := false, frameReady := false, frame := [] }

/-- The cartridge of a launch (70_reset_and_hazards.md R450, steps 1 and 2). MBC2's built-in RAM takes its
contents from `powerOn.ram4`, in both boot modes, and never from `ramInit`: which parameter gives them the spec
leaves open (00_scope.md R7, 10_state.md R49, 20_memory.md R100). DESIGN CHOICE (log entry 16), safe. The
length of the external RAM buffer is `ramSize`, whatever `ramBankCount`. DESIGN CHOICE (log entry 17), safe. -/
def Launch.cart (p : Launch) (m : Mbc) : Cart :=
  { mbc := m, remapZero := p.remapZero
    romBankCount := p.romBankCount, romSize := p.romSize, rom := Cells.ofWrites (w := 8) p.romBytes
    ramBankCount := p.ramBankCount, ramSize := p.ramSize, ram := Cells.ofWrites (w := 8) p.ramInit
    ram4 := Cells.ofWrites p.powerOn.ram4 }

/-- The launch parameters that stay beside the machine. -/
def Launch.params (p : Launch) (image : Memory) : Params :=
  { eiDelay := p.eiDelay, stopMode := p.stopMode, endPc := p.endPc
    bootImage := Cells.ofWrites (w := 8) image }

/-- The reset procedure (70_reset_and_hazards.md R450): the column of 10_state.md R49 that `boot_mode`
selects. -/
def State.launch (p : Launch) : Except LaunchError State :=
  match mbcOfType p.mbcType with
  | none => .error (.unsupportedCartridge p.mbcType)
  | some m =>
    match p.bootMode with
    | .bootRom image =>
      .ok { cpu := p.powerOn.cpu, io := Io.bootRom p.joypad, timer := Timer.bootRom, ppu := Ppu.bootRom
            cart := p.cart m, mem := p.powerOn.array, params := p.params image, fault := none }
    | .postBoot =>
      .ok { cpu := Cpu.reset, io := { Io.reset with joypad := p.joypad }, timer := Timer.reset
            ppu := Ppu.reset, cart := p.cart m, mem := p.powerOn.array, params := p.params []
            fault := none }

/-- A draw that is zero everywhere. -/
def PowerOn.zero : PowerOn :=
  { a := 0, f := 0, b := 0, c := 0, d := 0, e := 0, h := 0, l := 0, sp := 0, mem := [], ram4 := [] }

/-- The launch whose state is `State.reset` (log entries 1, 2 and 3). -/
def Launch.standard : Launch :=
  { mbcType := 0x00, romBytes := [], romSize := 0x8000, romBankCount := 2
    ramBankCount := 0, ramInit := [], ramSize := 0
    bootMode := .postBoot, eiDelay := true, stopMode := .fault, remapZero := true
    joypad := Joypad.released, powerOn := PowerOn.zero, endPc := 0x0000 }

end Sys2Proof.Machine
end

