-- ==== Sys2Proof/Safety.lean ====
section
/-! DEFINITION. The terms statements use: which accesses the cartridge refuses, what a store can reach,
the invariant of the machine, and the end of a run. -/

namespace Sys2Proof.Machine

/-! ## Accesses -/

/-- The address is in the external RAM window, the only one whose accesses can be refused
(20_memory.md R69). -/
def inCartRam (a : Word) : Bool := decide (0xA000 ≤ a.toNat ∧ a.toNat ≤ 0xBFFF)

/-- The controller refuses no RAM access: it is no MBC3 with RAM enabled and `ramsel >= 4`
(20_memory.md R112). -/
def Mbc.allowsRam : Mbc → Bool
  | .mbc3 en _ ramsel => !en || decide (ramsel.toNat ≤ 0x03)
  | _ => true

/-- A read of `a` is not refused. -/
def State.readable (s : State) (a : Word) : Bool := !inCartRam a || s.cart.mbc.allowsRam

/-- A store of `v` at `a` is not refused: not in the RAM window, and no OAM DMA from there. -/
def State.storable (s : State) (a : Word) (v : Byte) : Bool :=
  s.cart.mbc.allowsRam || (!inCartRam a && !(a == 0xFF46 && inCartRam (word16 v 0)))

/-- Plain RAM, where a store reaches its own byte (in WRAM also under its echo) and nothing else: WRAM or HRAM. -/
def plainRam (a : Word) : Bool :=
  decide (0xC000 ≤ a.toNat ∧ a.toNat ≤ 0xDFFF) || decide (0xFF80 ≤ a.toNat ∧ a.toNat ≤ 0xFFFE)

/-- The echo folded onto WRAM (20_memory.md R60). -/
def unecho (a : Word) : Nat :=
  if 0xE000 ≤ a.toNat ∧ a.toNat ≤ 0xFDFF then a.toNat - 0x2000 else a.toNat

/-- `s` refuses an access with the record `r`: an MBC3 with RAM enabled and `ramsel >= 4`, recorded at the
pc of the step under way (20_memory.md R69, R112, 60_exceptions.md R382). -/
def State.Refuses (s : State) (r : FaultRecord) : Prop :=
  ∃ bank sel, s.cart.mbc = .mbc3 true bank sel ∧ 4 ≤ sel.toNat
    ∧ r = .unmodelled (.mbc3Select sel) s.cpu.opPc

/-- A store at `a` can change what a read at `b` gives, with controller `m`. A bank-control write reaches
the ROM and the RAM window; MBC2's RAM repeats every 512 bytes; LCDC reaches STAT and LY, DMA reaches OAM,
BOOT reaches the overlay; LY and the unusable region take no store; every other byte reaches itself, under
both its names in the echo (20_memory.md R55, R57). -/
def storeReach (m : Mbc) (a b : Word) : Bool :=
  if a.toNat ≤ 0x7FFF then m != .romOnly && (decide (b.toNat ≤ 0x7FFF) || inCartRam b)
  else if inCartRam a then
    inCartRam b && (if m.hasRam4 then b.toNat % 512 == a.toNat % 512 else b == a)
  else if a.toNat = 0xFF40 then b == 0xFF40 || b == 0xFF41 || b == 0xFF44
  else if a.toNat = 0xFF46 then b == 0xFF46 || decide (0xFE00 ≤ b.toNat ∧ b.toNat ≤ 0xFE9F)
  else if a.toNat = 0xFF50 then b == 0xFF50 || decide (b.toNat ≤ 0x00FF)
  else if a.toNat = 0xFF44 ∨ (0xFEA0 ≤ a.toNat ∧ a.toNat ≤ 0xFEFF) then false
  else unecho b == unecho a

/-- A read of both bytes of the word at `a` is not refused. -/
def State.readable16 (s : State) (a : Word) : Bool := s.readable a && s.readable (a + 1)

/-- A store of both bytes of `v` at `a` is not refused, in either order. -/
def State.storable16 (s : State) (a v : Word) : Bool :=
  s.storable a (loByte v) && s.storable (a + 1) (hiByte v)

/-- What one read gives, `none` where it is refused. -/
def State.peek (s : State) (a : Word) : Option Byte := (s.memRead a).toOption

/-! ## Fields of the encodings -/

end Sys2Proof.Machine

namespace Sys2Proof

/-- The value of an r8 field (30_encoding.md R133). -/
def Reg8.code : Reg8 → Nat
  | .b => 0
  | .c => 1
  | .d => 2
  | .e => 3
  | .h => 4
  | .l => 5
  | .a => 7

/-- The value of an rr field (30_encoding.md R134). -/
def Pair.code : Pair → Nat
  | .bc => 0
  | .de => 1
  | .hl => 2
  | .sp => 3

/-- The value of an rr2 field (30_encoding.md R134). -/
def StackPair.code : StackPair → Nat
  | .bc => 0
  | .de => 1
  | .hl => 2
  | .af => 3

/-- The value of a cc field (30_encoding.md R135). -/
def Cond.code : Cond → Nat
  | .nz => 0
  | .z => 1
  | .nc => 2
  | .c => 3

/-- The value of an ALU operation field (30_encoding.md R136). -/
def AluOp.code : AluOp → Nat
  | .add => 0
  | .adc => 1
  | .sub => 2
  | .sbc => 3
  | .and => 4
  | .xor => 5
  | .or => 6
  | .cp => 7

/-- The value of a rotate or shift field (30_encoding.md R137). -/
def RotOp.code : RotOp → Nat
  | .rlc => 0
  | .rrc => 1
  | .rl => 2
  | .rr => 3
  | .sla => 4
  | .sra => 5
  | .swap => 6
  | .srl => 7

/-- The result column of the table of 43_rotate_shift_bit.md R260, in arithmetic on natural numbers: `v` a
byte, `cin` 0 or 1. -/
def RotOp.result (op : RotOp) (v cin : Nat) : Nat :=
  match op with
  | .rlc => v * 2 % 256 + v / 128
  | .rrc => v / 2 + v % 2 * 128
  | .rl => v * 2 % 256 + cin
  | .rr => v / 2 + cin * 128
  | .sla => v * 2 % 256
  | .sra => v / 2 + v / 128 * 128
  | .swap => v % 16 * 16 + v / 16
  | .srl => v / 2

/-- The cout column of the table of 43_rotate_shift_bit.md R260. -/
def RotOp.out (op : RotOp) (v : Nat) : Bool :=
  match op with
  | .rlc | .rl | .sla => decide (128 ≤ v)
  | .rrc | .rr | .sra | .srl => decide (v % 2 = 1)
  | .swap => false

end Sys2Proof

namespace Sys2Proof.Machine

/-! ## Frames -/

/-- The 8-bit registers a pair of the rr table is made of. -/
def pairRegs : Pair → List Reg8
  | .bc => [.b, .c]
  | .de => [.d, .e]
  | .hl => [.h, .l]
  | .sp => []

/-- The 8-bit registers, F apart, a pair of the rr2 table is made of. -/
def stackPairRegs : StackPair → List Reg8
  | .bc => [.b, .c]
  | .de => [.d, .e]
  | .hl => [.h, .l]
  | .af => [.a]

/-- Of `s`, only the 8-bit registers listed, F and the cycle count may differ in `t`: SP, PC, the control
bits of the CPU, memory, the registers of the MMU, timer, PPU and cartridge are as they were. -/
structure State.OnlyRegs (s t : State) (changed : List Reg8) : Prop where
  others : ∀ r, r ∉ changed → t.reg r = s.reg r
  rest : t = { s with cpu := { s.cpu with
    a := t.cpu.a, f := t.cpu.f, b := t.cpu.b, c := t.cpu.c, d := t.cpu.d, e := t.cpu.e
    h := t.cpu.h, l := t.cpu.l, cycles := t.cpu.cycles } }

/-- The next step fetches an instruction: no fault is recorded, no interrupt is dispatched and the CPU
does not stay halted (60_exceptions.md R354). -/
def State.fetches (s : State) : Bool :=
  s.fault.isNone && !(s.cpu.ime && s.pending != 0) && !(s.cpu.halted && s.pending == 0)

/-! ## The invariant -/

/-- A bank register whose written zero is remapped never holds zero (20_memory.md R92, R101, R111). -/
def Mbc.bankNonzero : Mbc → Bool
  | .mbc1 _ bank1 _ _ => bank1 != 0
  | .mbc2 _ rombank => rombank != 0
  | .mbc3 _ rombank _ => rombank != 0
  | _ => true

/-- Where the PPU can be between steps (10_state.md R47, 60_exceptions.md R401, R409). -/
structure Ppu.Timed (p : Ppu) : Prop where
  /-- `modeclock` is below the current mode's length. -/
  clock : p.modeclock < p.mode.length
  /-- LY is a line of the frame. -/
  line : p.ly.toNat ≤ 153
  /-- VBlank holds exactly from line 144 on. -/
  vBlank : p.mode = .vBlank ↔ 144 ≤ p.ly.toNat
  /-- With the LCD off the PPU is frozen in mode 0 at line 0. -/
  frozen : p.lcdOn = false → p.mode = .hBlank ∧ p.ly = 0 ∧ p.modeclock = 0

/-- Where the timer can be between steps (10_state.md R48, 60_exceptions.md R421). -/
structure Timer.Below (t : Timer) : Prop where
  /-- While TIMA runs, less than one increment is accumulated. -/
  running : t.enabled = true → t.timaAcc < t.threshold
  /-- Whatever TAC selects now, less than the largest threshold is. -/
  bounded : t.timaAcc < 1024

/-- What every step keeps. -/
structure State.Inv (s : State) : Prop where
  /-- "F low nibble is always masked to 0 after any write" (10_state.md R23). -/
  flags : s.cpu.f &&& 0x0F = 0
  /-- Not both halted and under the HALT bug (45_system.md R331). -/
  haltOrBug : ¬(s.cpu.halted = true ∧ s.cpu.haltBug = true)
  /-- "No HALT tick can start with ime_scheduled = 1" (60_exceptions.md R357). -/
  haltNotScheduled : s.cpu.halted = true → s.cpu.imeScheduled = false
  /-- "With EI_DELAY = 0, ime_scheduled is never set" (60_exceptions.md R357). -/
  delayOnly : s.params.eiDelay = false → s.cpu.imeScheduled = false
  /-- STAT stores bits 6-3 only (10_state.md R41). -/
  statBits : s.ppu.statEnables &&& 0x87 = 0
  ppu : s.ppu.Timed
  timer : s.timer.Below
  bank : s.cart.mbc.bankNonzero = true
  /-- Every memory is in its canonical form. -/
  mem : Memory.wf s.mem = true
  rom : Memory.wf s.cart.rom = true
  ram : Memory.wf s.cart.ram = true
  ram4 : Cells.wf s.cart.ram4 = true
  image : Memory.wf s.params.bootImage = true
  frame : Cells.wf s.ppu.frame = true

/-! ## Runs -/

/-- A state from which the next step is no fault. -/
def State.SafeStep (s : State) : Prop := ∃ t, step s = .next t

/-- The end of a run (60_exceptions.md R442): (a) PC at `end_pc` with `JR 0xFE` there; (b) halted with
`IE & 0x1F = 0`, which no host operation changes. A faulted state is never an end. -/
def State.endOfRun (s : State) : Bool :=
  s.fault == none
    && ((s.cpu.pc == s.params.endPc && (s.memRead s.cpu.pc).toOption == some 0x18
          && (s.memRead (s.cpu.pc + 1)).toOption == some 0xFE)
        || (s.cpu.halted && s.io.ie &&& 0x1F == 0))

end Sys2Proof.Machine
end

