-- ==== Sys2Proof/Certificates/Slice0/Obligations.lean ====
section
/-! DEFINITION. What is to be proved of the machine. Every statement is about the machine alone; each
docstring names the rules of spec/ it states. -/

section

open Sys2Proof Sys2Proof.Machine

/-! ## Encoding -/

/-- Decoding the bytes of an instruction gives it back, whatever follows it (30_encoding.md R130, R138 to
R141): no bit of an encoding is dropped. -/
def Obligations.DecodeInvertsEncode : Prop :=
  ∀ (i : Instr) (rest : List Byte), i.wellFormed = true → decode (encode i ++ rest) = .ok (i, rest)

/-- Any three bytes begin with an instruction: decoding is total, consumes the length the opcode alone
gives, and the encoder gives the consumed bytes back (30_encoding.md R130, R141). STOP is apart, whose
second byte is free (R144).
It rests on the spec's own choices D8 (92_eei_decisions.md). -/
def Obligations.DecodeTotalAndFaithful : Prop :=
  ∀ (op x y : Byte) (rest : List Byte), ∃ i,
    decode (op :: x :: y :: rest) = .ok (i, (op :: x :: y :: rest).drop (instrLength op))
      ∧ i.wellFormed = true
      ∧ (op ≠ 0x10 → encode i = [op, x, y].take (instrLength op))

/-- The words the spec's rules write out decode to the instructions they stand for: 40_loads.md R164, R172,
R178, 44_control.md R301, R304, 41_alu8.md R202, R208, 43_rotate_shift_bit.md R266, R282, R286, and the
illegal opcode of 30_encoding.md R142. -/
def Obligations.SpecWordsDecode : Prop :=
  decode [0x3E, 0x42] = .ok (.ldAN8 0x42, [])
    ∧ decode [0xFA, 0x00, 0xC0] = .ok (.ldAIndA16 0xC000, [])
    ∧ decode [0x11, 0x34, 0x12] = .ok (.ldDeN16 0x1234, [])
    ∧ decode [0xC3, 0x50, 0x01] = .ok (.jpA16 0x0150, [])
    ∧ decode [0x18, 0x05] = .ok (.jrE8 0x05, [])
    ∧ decode [0x3C] = .ok (.incA, [])
    ∧ decode [0xC6, 0xFF] = .ok (.addAN8 0xFF, [])
    ∧ decode [0xCB, 0x00] = .ok (.cbRlcB, [])
    ∧ decode [0xCB, 0x7C] = .ok (.bit7H, [])
    ∧ decode [0xCB, 0xD8] = .ok (.set3B, [])
    ∧ decode [0xD3] = .ok (.illegalD3, [])

/-! ## The step -/

/-- A step that fetches runs the instruction the bytes at PC decode to, with PC past the bytes its rule
names, `pc0` noted, the wake done, an EI that was scheduled taking effect, then the timer and the PPU
advanced by the cycles returned (60_exceptions.md R351, R354, R356, R357). Under the HALT bug the opcode
fetch does not advance PC, once, so that the operand bytes are read from the opcode's own address on
(R355).
It rests on the spec's own choices D4, D5, D6 (92_eei_decisions.md). -/
def Obligations.StepRunsDecodedInstruction : Prop :=
  ∀ (s : State) (op x y : Byte) (i : Instr) (rest : List Byte),
    let next := if s.cpu.haltBug then s.cpu.pc else s.cpu.pc + 1
    s.fetches = true →
    s.memRead s.cpu.pc = .ok op →
    (1 ≤ operandCount op → s.memRead next = .ok x) →
    (2 ≤ operandCount op → s.memRead (next + 1) = .ok y) →
    decode [op, x, y] = .ok (i, rest) →
    step s =
      match exec i { s with cpu := { s.cpu with
          halted := false, haltBug := false, opPc := s.cpu.pc
          pc := next + BitVec.ofNat 16 (operandCount op) } } with
      | .next t =>
        let u := if s.cpu.imeScheduled && t.cpu.imeScheduled
          then { t with cpu := { t.cpu with ime := true, imeScheduled := false } } else t
        .next ((u.timerAdvance u.cpu.cycles).ppuStep u.cpu.cycles)
      | .fault r => .fault r
      | .refused q => .refused q

/-- A halted CPU with nothing pending takes a 4-cycle step that changes nothing but what the devices do;
with IME = 0 and a source pending it wakes and the same step goes on (60_exceptions.md R353).
It rests on the spec's own choices D5 (92_eei_decisions.md). -/
def Obligations.HaltTickAndWake : Prop :=
  (∀ s : State, s.fault = none → s.cpu.halted = true → s.io.ie &&& s.io.ifl &&& 0x1F = 0 →
    step s = .next (({ s with cpu := { s.cpu with cycles := 4 } }.timerAdvance 4).ppuStep 4))
  ∧ ∀ s : State, s.fault = none → s.cpu.halted = true → s.cpu.ime = false →
    s.io.ie &&& s.io.ifl &&& 0x1F ≠ 0 →
    step s = step { s with cpu := { s.cpu with halted := false } }

/-- Taking an interrupt: with IME = 1 and a source pending, the lowest is dispatched. The return address is
pushed high byte first, IME, `ime_scheduled`, `halted`, `halt_bug` and the serviced IF bit are cleared, PC is
the vector, 20 cycles pass, and nothing else changes; a push that an MBC3 refuses faults, recorded at the
return address (60_exceptions.md R352, R361, R362, R363, R366, R382).
It rests on the spec's own choices D1, D6, D7, D21, D38 (92_eei_decisions.md); that an access is refused
also where there are no RAM banks is log entry 12, and that the copy of an OAM DMA is refused, whatever
instruction starts it, is log entry 15 (both DEDUCED). -/
def Obligations.InterruptDispatch : Prop :=
  ∀ s : State,
    let ret := if s.cpu.haltBug then s.cpu.pc - 1 else s.cpu.pc
    let hi := s.cpu.sp - 1
    let lo := s.cpu.sp - 2
    s.fault = none → s.cpu.ime = true → s.io.ie &&& s.io.ifl &&& 0x1F ≠ 0 →
    (s.storable16 lo ret = false → ∃ f bank sel, step s = .fault f ∧ s.cart.mbc = .mbc3 true bank sel
      ∧ 4 ≤ sel.toNat ∧ f.record = .unmodelled (.mbc3Select sel) ret)
    ∧ (s.storable16 lo ret = true →
    ∃ (i : Fin 5) (s₀ m₁ m₂ t : State),
      (s.io.ie &&& s.io.ifl).getLsbD i = true
      ∧ (∀ j : Fin 5, j < i → (s.io.ie &&& s.io.ifl).getLsbD j = false)
      ∧ s₀ = { s with io := { s.io with ifl := s.io.ifl &&& ~~~(1#8 <<< i.val) } }
      ∧ s₀.memWrite hi (hiByte ret) = .ok m₁ ∧ m₁.memWrite lo (loByte ret) = .ok m₂
      ∧ t = { m₂ with cpu := { s.cpu with
          ime := false, imeScheduled := false, halted := false, haltBug := false
          sp := s.cpu.sp - 2, pc := BitVec.ofNat 16 (0x40 + 8 * i.val), opPc := ret, cycles := 20 } }
      ∧ step s = .next ((t.timerAdvance 20).ppuStep 20)
      ∧ (∀ b, b ≠ 0xFF0F → storeReach s.cart.mbc hi b = false → storeReach s.cart.mbc lo b = false →
          t.peek b = s.peek b)
      ∧ (plainRam hi = true → plainRam lo = true →
          t.peek hi = some (hiByte ret) ∧ t.peek lo = some (loByte ret)
          ∧ t.io = { s.io with ifl := s.io.ifl &&& ~~~(1#8 <<< i.val) }
          ∧ t.timer = s.timer ∧ t.ppu = s.ppu ∧ t.cart = s.cart))

/-- A recorded fault is answered by every later step, which changes nothing; a step that faults leaves the
record in the state the host goes on from, where every later step answers it again (60_exceptions.md R380,
10_state.md R32).
It rests on the spec's own choices D35 (92_eei_decisions.md); the host's iteration is a function beside `step`
(log entry 6). -/
def Obligations.FaultIsFinal : Prop :=
  (∀ (s : State) (r : FaultRecord), s.fault = some r → ∃ f, step s = .fault f ∧ f.record = r ∧ f.left = s)
  ∧ ∀ (s : State) (f : Fault), step s = .fault f →
      f.left.fault = some f.record ∧ s.hostIterate = f.left ∧ step f.left = .fault f
        ∧ s.hostIterate.hostIterate = s.hostIterate

/-- Only three things stop the machine: an illegal opcode, STOP in its Fault mode, and an access an MBC3
refuses, each recorded at the opcode's address or a dispatch's return address (60_exceptions.md R381, R382,
R384, 20_memory.md R69). No step is refused.
It rests on the spec's own choices D8, D9, D21, D35 (92_eei_decisions.md); that an access is refused also
where there are no RAM banks is log entry 12, and that the copy of an OAM DMA is refused, whatever
instruction starts it, is log entry 15 (both DEDUCED). -/
def Obligations.FaultCauses : Prop :=
  (∀ (s : State) (q : Refusal), step s ≠ .refused q)
  ∧ ∀ (s : State) (r : Fault), s.fault = none → step s = .fault r →
    (∃ op, s.fetches = true ∧ s.memRead s.cpu.pc = .ok op ∧ op ∈ illegalOpcodes
      ∧ r.record = .decodeError op s.cpu.pc)
    ∨ (s.fetches = true ∧ s.params.stopMode = .fault ∧ s.memRead s.cpu.pc = .ok 0x10
      ∧ r.record = .unmodelled .stop s.cpu.pc)
    ∨ ∃ bank sel, s.cart.mbc = .mbc3 true bank sel ∧ 4 ≤ sel.toNat
      ∧ r.record = .unmodelled (.mbc3Select sel) (if s.fetches then s.cpu.pc else s.returnAddress)

/-- `step()` returns 4 to 24 cycles, a multiple of 4 (60_exceptions.md R350).
It rests on the spec's own choices D34 (92_eei_decisions.md). -/
def Obligations.StepCycles : Prop :=
  ∀ s t : State, step s = .next t → 4 ≤ t.cpu.cycles ∧ t.cpu.cycles ≤ 24 ∧ t.cpu.cycles % 4 = 0

/-- With EI_DELAY = 1 exactly one instruction runs after EI, whatever is pending, and IME takes effect at its
end; DI as that instruction cancels it, and RETI sets IME by itself (60_exceptions.md R357, 45_system.md
R333, R334). NOP and DI complete.
It rests on the spec's own choices D4, D41 (92_eei_decisions.md). -/
def Obligations.EiDelay : Prop :=
  ∀ s t : State, s.fetches = true → s.params.eiDelay = true → s.cpu.haltBug = false →
    s.cpu.ime = false → s.cpu.imeScheduled = false → s.memRead s.cpu.pc = .ok 0xFB → step s = .next t →
    t.cpu.ime = false ∧ t.cpu.imeScheduled = true ∧ t.fetches = true
    ∧ (∀ op u, t.memRead t.cpu.pc = .ok op → step t = .next u →
        u.cpu.imeScheduled = false ∧ u.cpu.ime = decide (op ≠ 0xF3))
    ∧ (t.memRead t.cpu.pc = .ok 0x00 → ∃ u, step t = .next u ∧ u.cpu.ime = true
        ∧ u.cpu.imeScheduled = false ∧ u.cpu.pc = s.cpu.pc + 2)
    ∧ (t.memRead t.cpu.pc = .ok 0xF3 → ∃ u, step t = .next u ∧ u.cpu.ime = false
        ∧ u.cpu.imeScheduled = false ∧ u.cpu.pc = s.cpu.pc + 2)

/-! ## Reset and what every step keeps -/

/-- The machine after a PostBoot reset: the registers of 10_state.md R49 (column PostBoot) and
70_reset_and_hazards.md R452, R453. That reset is a PostBoot launch is the model's choice (log entry 1); the
values are the spec's, by its own choice D10 (92_eei_decisions.md). -/
def Obligations.ResetRegisters : Prop :=
  let s := State.reset
  s.stackPair .af = 0x01B0 ∧ s.pair .bc = 0x0013 ∧ s.pair .de = 0x00D8 ∧ s.pair .hl = 0x014D
  ∧ s.cpu.sp = 0xFFFE ∧ s.cpu.pc = 0x0100 ∧ s.cpu.ime = false ∧ s.cpu.imeScheduled = false
  ∧ s.cpu.halted = false ∧ s.cpu.haltBug = false ∧ s.fault = none ∧ s.io.bootEnabled = false
  ∧ s.io.ie = 0x00 ∧ s.io.ifl = 0x01 ∧ s.memRead 0xFF00 = .ok 0xCF
  ∧ s.io.sb = 0x00 ∧ s.io.sc = 0x7E ∧ s.timer.divCounter = 0xAB00 ∧ s.timer.tima = 0x00
  ∧ s.timer.tma = 0x00 ∧ s.timer.tac = 0x00 ∧ s.timer.timaAcc = 0
  ∧ s.ppu.lcdc = 0x91 ∧ s.ppu.statEnables = 0x00 ∧ s.ppu.scy = 0x00 ∧ s.ppu.scx = 0x00
  ∧ s.ppu.lyc = 0x00 ∧ s.ppu.wy = 0x00 ∧ s.ppu.wx = 0x00 ∧ s.io.dma = 0xFF
  ∧ s.ppu.bgp = 0xFC ∧ s.ppu.obp0 = 0xFF ∧ s.ppu.obp1 = 0xFF ∧ s.io.boot = 0x01
  ∧ s.ppu.mode = .oamScan ∧ s.ppu.modeclock = 0 ∧ s.ppu.ly = 0 ∧ s.ppu.coincidence = true
  ∧ s.ppu.frameReady = false ∧ s.ppu.frame = []

/-- The state after reset meets the invariant; its cartridge and its empty memory are the model's choice
(log entries 2, 3). -/
def Obligations.ResetMeetsInvariant : Prop := State.reset.Inv

/-- Every step keeps the invariant, from every state that meets it: F's low nibble is zero, the hidden
control bits agree, the PPU and the timer are where they can be between steps, the remapped bank registers
are not zero, and every memory is in its canonical form (10_state.md R23, R41, R47, R48, 20_memory.md R92,
R101, R111, 60_exceptions.md R357, R401, R409, R421).
It rests on the spec's own choices D14, D19, D20, D21, D26 (92_eei_decisions.md). -/
def Obligations.StepKeepsInvariant : Prop :=
  ∀ s t : State, s.Inv → step s = .next t → t.Inv

/-- No step changes the launch, the ROM image, the shape of the cartridge, the joypad input or the unusable
bytes; the boot overlay, once off, stays off; and a next state has no fault recorded (00_scope.md R7,
10_state.md R32, R45, 20_memory.md R58, R65).
It rests on the spec's own choices D16, D18 (92_eei_decisions.md). -/
def Obligations.StepKeepsLaunch : Prop :=
  ∀ s t : State, step s = .next t →
    t.params = s.params ∧ t.io.joypad = s.io.joypad ∧ t.fault = none
    ∧ t.cart.rom = s.cart.rom ∧ t.cart.romSize = s.cart.romSize
    ∧ t.cart.romBankCount = s.cart.romBankCount ∧ t.cart.ramSize = s.cart.ramSize
    ∧ t.cart.ramBankCount = s.cart.ramBankCount ∧ t.cart.remapZero = s.cart.remapZero
    ∧ (t.io.bootEnabled = true → s.io.bootEnabled = true)
    ∧ ∀ a : Word, 0xFEA0 ≤ a.toNat → a.toNat ≤ 0xFEFF → t.memRead a = s.memRead a

/-! ## Memory -/

/-- The address space is total: the only access that faults is one an MBC3 refuses, in the RAM window or
through an OAM DMA from there (20_memory.md R69, R112).
It rests on the spec's own choice D21 (92_eei_decisions.md); that an access is refused also where there are
no RAM banks is log entry 12, and that the copy of an OAM DMA is refused, whatever instruction starts it, is
log entry 15 (both DEDUCED). -/
def Obligations.OnlyMbc3Refuses : Prop :=
  ∀ (s : State) (a : Word) (v : Byte),
    (s.readable a = true → ∃ w, s.memRead a = .ok w)
    ∧ (s.readable a = false → ∃ e, s.Refuses e ∧ s.memRead a = .error e)
    ∧ (s.storable a v = true → ∃ m, s.memWrite a v = .ok m)
    ∧ (s.storable a v = false → ∃ e, s.Refuses e.record ∧ s.memWrite a v = .error e)
    ∧ (s.storable a v = false → ∃ bank sel, s.cart.mbc = .mbc3 true bank sel ∧ 4 ≤ sel.toNat
        ∧ (inCartRam a = true ∨ a = 0xFF46 ∧ inCartRam (word16 v 0) = true))

/-- What a store leaves: every byte it does not reach, the CPU, the launch, the ROM, the framebuffer and
the input (20_memory.md R55, R57).
It rests on the spec's own choices D12, D14, D16, D20 (92_eei_decisions.md). -/
def Obligations.StoreFrame : Prop :=
  ∀ (s m : State) (a : Word) (v : Byte), s.memWrite a v = .ok m →
    (∀ b, storeReach s.cart.mbc a b = false → m.memRead b = s.memRead b)
    ∧ m.cpu = s.cpu ∧ m.params = s.params ∧ m.fault = s.fault ∧ m.io.joypad = s.io.joypad
    ∧ m.cart.rom = s.cart.rom ∧ m.cart.romBankCount = s.cart.romBankCount
    ∧ m.timer.timaAcc = s.timer.timaAcc ∧ m.ppu.coincidence = s.ppu.coincidence
    ∧ m.ppu.frameReady = s.ppu.frameReady ∧ m.ppu.frame = s.ppu.frame
    ∧ (0x8000 ≤ a.toNat → m.cart.mbc = s.cart.mbc)
    ∧ (a.toNat < 0xFF00 → m.io = s.io ∧ m.timer = s.timer ∧ m.ppu = s.ppu)

/-- VRAM, WRAM, its echo, OAM and HRAM hold what is stored, the echo being WRAM under another name; only the
flat array changes. The unusable region takes no store (20_memory.md R59, R60, R61, R65, R67).
It rests on the spec's own choices D18, D23 (92_eei_decisions.md). -/
def Obligations.RamReadsBack : Prop :=
  ∀ (s : State) (a : Word) (v : Byte),
    ((0x8000 ≤ a.toNat ∧ a.toNat ≤ 0x9FFF) ∨ (0xC000 ≤ a.toNat ∧ a.toNat ≤ 0xFE9F)
        ∨ (0xFF80 ≤ a.toNat ∧ a.toNat ≤ 0xFFFE) →
      ∃ m, s.memWrite a v = .ok m ∧ m = { s with mem := m.mem } ∧ m.memRead a = .ok v
        ∧ (0xC000 ≤ a.toNat → a.toNat ≤ 0xDDFF → m.memRead (a + 0x2000) = .ok v)
        ∧ (0xE000 ≤ a.toNat → a.toNat ≤ 0xFDFF → m.memRead (a - 0x2000) = .ok v))
    ∧ (0xE000 ≤ a.toNat → a.toNat ≤ 0xFDFF → s.memRead a = s.memRead (a - 0x2000))
    ∧ (0xFEA0 ≤ a.toNat → a.toNat ≤ 0xFEFF → s.memWrite a v = .ok s)

/-- What each I/O register reads after a store of `v`, and that a store at DIV sets all 16 bits of its counter
to 0 and changes nothing else, by the table of 10_state.md R35 and the rules of the
registers it names (R33, R34, R36, R37, R39, R41, R42, 20_memory.md R66, R68). DMA has its own statement.
It rests on the spec's own choices D11, D12, D13, D14, D15, D16, D36 (92_eei_decisions.md). -/
def Obligations.IoReadsBack : Prop :=
  ∀ (s : State) (a : Word) (v : Byte), 0xFF00 ≤ a.toNat → a.toNat ≤ 0xFF7F ∨ a = 0xFFFF → a ≠ 0xFF46 →
    ∃ m, s.memWrite a v = .ok m ∧ m.memRead a = .ok (
      if a = 0xFF00 then 0xC0 ||| (v &&& 0x30) ||| (s.io.joypad.keys (v.extractLsb' 4 2)).setWidth 8
      else if a = 0xFF04 then 0x00
      else if a = 0xFF07 then v ||| 0xF8
      else if a = 0xFF0F then v ||| 0xE0
      else if a = 0xFF41 then
        0x80 ||| (v &&& 0x78) ||| (if s.ppu.coincidence then 0x04 else 0x00)
          ||| (if s.ppu.lcdc.getLsbD 7 then
            match s.ppu.mode with
            | .hBlank => 0
            | .vBlank => 1
            | .oamScan => 2
            | .pixelTransfer => 3
            else 0)
      else if a = 0xFF44 then s.ppu.ly
      else v)
      ∧ (a = 0xFF04 → m = { s with timer := { s.timer with divCounter := 0 } })

/-- OAM DMA: a store of `v` at 0xFF46 keeps `v` and copies the 160 bytes from `v << 8` into OAM through the
normal routing, at once (20_memory.md R64, 10_state.md R43).
It rests on the spec's own choices D39 (92_eei_decisions.md). -/
def Obligations.OamDmaCopies : Prop :=
  ∀ (s : State) (v : Byte), s.storable 0xFF46 v = true →
    ∃ m, s.memWrite 0xFF46 v = .ok m
      ∧ m = { s with io := { s.io with dma := v }, mem := m.mem }
      ∧ m.memRead 0xFF46 = .ok v
      ∧ ∀ k : Nat, k < 160 →
          m.memRead (0xFE00 + BitVec.ofNat 16 k)
            = { s with io := { s.io with dma := v } }.memRead (word16 v 0 + BitVec.ofNat 16 k)

/-- Bank-control stores: what each controller's registers hold after a store of `v` at `a` below 0x8000, and
that nothing else changes (20_memory.md R83, R85, R91 to R94, R101, R111, R116).
It rests on the spec's own choices D19, D20, D21 (92_eei_decisions.md). -/
def Obligations.BankControl : Prop :=
  ∀ (s : State) (a : Word) (v : Byte), a.toNat ≤ 0x7FFF →
    (s.cart.mbc = .romOnly → s.memWrite a v = .ok s)
    ∧ (∀ en b₁ b₂ md, s.cart.mbc = .mbc1 en b₁ b₂ md → ∃ en' b₁' b₂' md',
        s.memWrite a v = .ok { s with cart := { s.cart with mbc := .mbc1 en' b₁' b₂' md' } }
        ∧ en' = (if a.toNat < 0x2000 then decide (v.toNat % 16 = 10) else en)
        ∧ b₁'.toNat = (if 0x2000 ≤ a.toNat ∧ a.toNat < 0x4000
            then if v.toNat % 32 = 0 then 1 else v.toNat % 32 else b₁.toNat)
        ∧ b₂'.toNat = (if 0x4000 ≤ a.toNat ∧ a.toNat < 0x6000 then v.toNat % 4 else b₂.toNat)
        ∧ md' = (if 0x6000 ≤ a.toNat then decide (v.toNat % 2 = 1) else md))
    ∧ (∀ en b, s.cart.mbc = .mbc2 en b → ∃ en' b',
        s.memWrite a v = .ok { s with cart := { s.cart with mbc := .mbc2 en' b' } }
        ∧ en' = (if a.toNat < 0x2000 then decide (v.toNat % 16 = 10) else en)
        ∧ b'.toNat = (if 0x2000 ≤ a.toNat ∧ a.toNat < 0x4000
            then if v.toNat % 16 = 0 then 1 else v.toNat % 16 else b.toNat))
    ∧ (∀ en b sel, s.cart.mbc = .mbc3 en b sel → ∃ en' b' sel',
        s.memWrite a v = .ok { s with cart := { s.cart with mbc := .mbc3 en' b' sel' } }
        ∧ en' = (if a.toNat < 0x2000 then decide (v.toNat % 16 = 10) else en)
        ∧ b'.toNat = (if 0x2000 ≤ a.toNat ∧ a.toNat < 0x4000
            then if v.toNat % 128 = 0 then 1 else v.toNat % 128 else b.toNat)
        ∧ sel' = (if 0x4000 ≤ a.toNat ∧ a.toNat < 0x6000 then v else sel))
    ∧ (∀ en b r, s.cart.mbc = .mbc5 en b r → ∃ en' b' r',
        s.memWrite a v = .ok { s with cart := { s.cart with mbc := .mbc5 en' b' r' } }
        ∧ en' = (if a.toNat < 0x2000 then decide (v.toNat % 16 = 10) else en)
        ∧ b'.toNat = (if 0x2000 ≤ a.toNat ∧ a.toNat < 0x3000 then b.toNat / 256 * 256 + v.toNat
            else if 0x3000 ≤ a.toNat ∧ a.toNat < 0x4000 then v.toNat % 2 * 256 + b.toNat % 256
            else b.toNat)
        ∧ r'.toNat = (if 0x4000 ≤ a.toNat ∧ a.toNat < 0x6000 then v.toNat % 16 else r.toNat))

/-- Reads below 0x8000: the boot image while its overlay is on, which a nonzero store at 0xFF50 ends; else
the ROM image, bank 0 below 0x4000 and the controller's bank, reduced by the declared count, above; 0xFF
beyond the image (20_memory.md R58, R81, R85, R95, R96, R102, R113, R117, 10_state.md R45).
It rests on the spec's own choices D16, D17, D19, D22 (92_eei_decisions.md). -/
def Obligations.RomReads : Prop :=
  ∀ (s : State) (a : Word), a.toNat ≤ 0x7FFF →
    let romAt : Nat → Byte := fun i => if i < s.cart.romSize then s.cart.rom.read i else 0xFF
    let bank : Nat → Byte := fun b => romAt (b % s.cart.romBankCount * 0x4000 + (a.toNat - 0x4000))
    (∀ v : Byte, ∃ m, s.memWrite 0xFF50 v = .ok m
      ∧ m.io.bootEnabled = (if v = 0 then s.io.bootEnabled else false))
    ∧ (s.io.bootEnabled = true → a.toNat ≤ 0x00FF →
      s.memRead a = .ok (s.params.bootImage.read a.toNat))
    ∧ (s.io.bootEnabled = false ∨ 0x00FF < a.toNat →
      (s.cart.mbc = .romOnly ∨ a.toNat < 0x4000 → s.memRead a = .ok (romAt a.toNat))
      ∧ (0x4000 ≤ a.toNat →
        (∀ en b₁ b₂ md, s.cart.mbc = .mbc1 en b₁ b₂ md → s.memRead a
          = .ok (bank (if md then b₁.toNat else 32 * b₂.toNat + b₁.toNat)))
        ∧ (∀ en b, s.cart.mbc = .mbc2 en b → s.memRead a = .ok (bank b.toNat))
        ∧ (∀ en b sel, s.cart.mbc = .mbc3 en b sel → s.memRead a = .ok (bank b.toNat))
        ∧ (∀ en b r, s.cart.mbc = .mbc5 en b r → s.memRead a
          = .ok (bank (if s.cart.remapZero = true ∧ b.toNat = 0 then 1 else b.toNat)))))

/-- External RAM: disabled or absent it reads 0xFF and takes no store; enabled, the access goes to the
controller's bank, reduced by the declared count, and what lies beyond the buffer reads 0xFF. MBC2's
built-in RAM is 512 entries of 4 bits that repeat (20_memory.md R82, R86, R97, R103, R112, R118).
It rests on the spec's own choices D17, D19, D20, D21 (92_eei_decisions.md); that the buffer's length is a
number of its own, whatever the bank count, is log entry 17 (DESIGN CHOICE). -/
def Obligations.CartridgeRam : Prop :=
  ∀ (s : State) (a : Word) (v : Byte), inCartRam a = true →
    (∀ (en : Bool) (rb : Nat),
      (s.cart.mbc = .romOnly ∧ en = true ∧ rb = 0)
        ∨ (∃ b₁ b₂ md, s.cart.mbc = .mbc1 en b₁ b₂ md ∧ rb = if md then b₂.toNat else 0)
        ∨ (∃ b sel, s.cart.mbc = .mbc3 en b sel ∧ rb = sel.toNat ∧ (en = true → sel.toNat ≤ 3))
        ∨ (∃ b r, s.cart.mbc = .mbc5 en b r ∧ rb = r.toNat) →
      let i := rb % s.cart.ramBankCount * 0x2000 + (a.toNat - 0xA000)
      if en = true ∧ s.cart.ramBankCount ≠ 0 ∧ i < s.cart.ramSize then
        s.memRead a = .ok (s.cart.ram.read i)
        ∧ ∃ m, s.memWrite a v = .ok m ∧ m = { s with cart := { s.cart with ram := m.cart.ram } }
          ∧ m.cart.ram.read i = v ∧ ∀ j, j ≠ i → m.cart.ram.read j = s.cart.ram.read j
      else s.memRead a = .ok 0xFF ∧ s.memWrite a v = .ok s)
    ∧ (∀ en b, s.cart.mbc = .mbc2 en b →
      let i := (a.toNat - 0xA000) % 512
      if en = true then
        s.memRead a = .ok (0xF0 ||| (s.cart.ram4.get i).setWidth 8)
        ∧ ∃ m, s.memWrite a v = .ok m ∧ m = { s with cart := { s.cart with ram4 := m.cart.ram4 } }
          ∧ m.cart.ram4.get i = v.setWidth 4 ∧ ∀ j, j ≠ i → m.cart.ram4.get j = s.cart.ram4.get j
      else s.memRead a = .ok 0xFF ∧ s.memWrite a v = .ok s)

/-! ## Loads, stores and the stack -/

/-- `LD r8,r8'` and `LD r8,n8`: the destination takes the source; no flag, no other register (40_loads.md
R161, R164). -/
def Obligations.LoadRegister : Prop :=
  (∀ (dst src : Reg8) (s : State),
    encode (.ldRegReg dst src) = [BitVec.ofNat 8 (0x40 + 8 * dst.code + src.code)]
    ∧ ∃ t, exec (.ldRegReg dst src) s = .next t ∧ t.reg dst = s.reg src ∧ t.cpu.f = s.cpu.f
      ∧ t.cpu.cycles = 4 ∧ s.OnlyRegs t [dst])
  ∧ ∀ (dst : Reg8) (n : Byte) (s : State),
    encode (.ldRegImm n dst) = [BitVec.ofNat 8 (0x06 + 8 * dst.code), n]
    ∧ ∃ t, exec (.ldRegImm n dst) s = .next t ∧ t.reg dst = n ∧ t.cpu.f = s.cpu.f
      ∧ t.cpu.cycles = 8 ∧ s.OnlyRegs t [dst]

/-- The loads of a byte of memory: the destination takes the byte read at the form's address; no flag, no
other register; an MBC3's refusal is the only fault (40_loads.md R162, R166, R172, R174, R176).
It rests on the spec's own choice D21 (92_eei_decisions.md); that an access is refused also where there are
no RAM banks is log entry 12 (DEDUCED). -/
def Obligations.LoadFromMemory : Prop :=
  ∀ (dst : Reg8) (w : Word) (n : Byte) (s : State) (i : Instr) (bytes : List Byte) (a : Word)
    (r : Reg8) (k : Nat),
    (i, bytes, a, r, k) ∈ ([
      (.ldRegHl dst, [BitVec.ofNat 8 (0x46 + 8 * dst.code)], word16 s.cpu.h s.cpu.l, dst, 8),
      (.ldAIndBc, [0x0A], word16 s.cpu.b s.cpu.c, .a, 8),
      (.ldAIndDe, [0x1A], word16 s.cpu.d s.cpu.e, .a, 8),
      (.ldAIndA16 w, [0xFA, loByte w, hiByte w], w, .a, 16),
      (.ldhAIndA8 n, [0xF0, n], 0xFF00 + n.setWidth 16, .a, 12),
      (.ldhAIndC, [0xF2], 0xFF00 + s.cpu.c.setWidth 16, .a, 8)] :
        List (Instr × List Byte × Word × Reg8 × Nat)) →
    encode i = bytes
    ∧ (s.readable a = true → ∃ v t, s.memRead a = .ok v ∧ exec i s = .next t ∧ t.reg r = v
        ∧ t.cpu.f = s.cpu.f ∧ t.cpu.cycles = k ∧ s.OnlyRegs t [r])
    ∧ (s.readable a = false → ∃ e, s.Refuses e.record ∧ exec i s = .fault e)

/-- The stores of a byte: the byte is written at the form's address, and nothing else changes but the cycle
count; an MBC3's refusal is the only fault (40_loads.md R163, R165, R167, R173, R175, R177).
It rests on the spec's own choice D21 (92_eei_decisions.md); that an access is refused also where there are
no RAM banks is log entry 12, and that the copy of an OAM DMA is refused, also from LDH, whose rules say
that it has no exceptions, is log entry 15 (both DEDUCED). -/
def Obligations.StoreByte : Prop :=
  ∀ (src : Reg8) (w : Word) (n : Byte) (s : State) (i : Instr) (bytes : List Byte) (a : Word)
    (v : Byte) (k : Nat),
    (i, bytes, a, v, k) ∈ ([
      (.ldHlReg src, [BitVec.ofNat 8 (0x70 + src.code)], word16 s.cpu.h s.cpu.l, s.reg src, 8),
      (.ldIndHlN8 n, [0x36, n], word16 s.cpu.h s.cpu.l, n, 12),
      (.ldIndBcA, [0x02], word16 s.cpu.b s.cpu.c, s.cpu.a, 8),
      (.ldIndDeA, [0x12], word16 s.cpu.d s.cpu.e, s.cpu.a, 8),
      (.ldIndA16A w, [0xEA, loByte w, hiByte w], w, s.cpu.a, 16),
      (.ldhIndA8A n, [0xE0, n], 0xFF00 + n.setWidth 16, s.cpu.a, 12),
      (.ldhIndCA, [0xE2], 0xFF00 + s.cpu.c.setWidth 16, s.cpu.a, 8)] :
        List (Instr × List Byte × Word × Byte × Nat)) →
    encode i = bytes
    ∧ (s.storable a v = true → ∃ m t, s.memWrite a v = .ok m ∧ exec i s = .next t
        ∧ t = { m with cpu := { s.cpu with cycles := k } }
        ∧ ∀ b, storeReach s.cart.mbc a b = false → t.memRead b = s.memRead b)
    ∧ (s.storable a v = false → ∃ e, s.Refuses e.record ∧ exec i s = .fault e)

/-- The loads and stores through HL that step HL: the access is at the old HL, HL moves by one mod 2^16, no
flag changes (40_loads.md R168 to R171).
It rests on the spec's own choice D21 (92_eei_decisions.md); that an access is refused also where there are
no RAM banks is log entry 12, and that the copy of an OAM DMA is refused, whatever instruction starts it, is
log entry 15 (both DEDUCED). -/
def Obligations.HlStepTransfers : Prop :=
  (∀ (s : State) (i : Instr) (bytes : List Byte) (hl : Word),
    (i, bytes, hl) ∈ ([(.ldAIndHli, [0x2A], word16 s.cpu.h s.cpu.l + 1),
      (.ldAIndHld, [0x3A], word16 s.cpu.h s.cpu.l - 1)] : List (Instr × List Byte × Word)) →
    encode i = bytes
    ∧ (s.readable (word16 s.cpu.h s.cpu.l) = true →
        ∃ v t, s.memRead (word16 s.cpu.h s.cpu.l) = .ok v ∧ exec i s = .next t ∧ t.cpu.a = v
          ∧ word16 t.cpu.h t.cpu.l = hl ∧ t.cpu.f = s.cpu.f ∧ t.cpu.cycles = 8
          ∧ s.OnlyRegs t [.a, .h, .l])
    ∧ (s.readable (word16 s.cpu.h s.cpu.l) = false → ∃ e, s.Refuses e.record ∧ exec i s = .fault e))
  ∧ ∀ (s : State) (i : Instr) (bytes : List Byte) (hl : Word),
    (i, bytes, hl) ∈ ([(.ldIndHliA, [0x22], word16 s.cpu.h s.cpu.l + 1),
      (.ldIndHldA, [0x32], word16 s.cpu.h s.cpu.l - 1)] : List (Instr × List Byte × Word)) →
    encode i = bytes
    ∧ (s.storable (word16 s.cpu.h s.cpu.l) s.cpu.a = true →
        ∃ m t, s.memWrite (word16 s.cpu.h s.cpu.l) s.cpu.a = .ok m ∧ exec i s = .next t
          ∧ t = { m with cpu := { s.cpu with h := hiByte hl, l := loByte hl, cycles := 8 } }
          ∧ ∀ b, storeReach s.cart.mbc (word16 s.cpu.h s.cpu.l) b = false →
              t.memRead b = s.memRead b)
    ∧ (s.storable (word16 s.cpu.h s.cpu.l) s.cpu.a = false → ∃ e, s.Refuses e.record ∧ exec i s = .fault e)

/-- `LD rr,n16` and `LD SP,HL` (40_loads.md R178, R180). -/
def Obligations.LoadWord : Prop :=
  (∀ (p : Pair) (n : Word) (s : State),
    encode (.ldPairImm n p) = [BitVec.ofNat 8 (0x01 + 16 * p.code), loByte n, hiByte n]
    ∧ ∃ t, exec (.ldPairImm n p) s = .next t ∧ t.pair p = n ∧ t.cpu.f = s.cpu.f ∧ t.cpu.cycles = 12
      ∧ (p ≠ .sp → t.cpu.sp = s.cpu.sp)
      ∧ { s with cpu := { s.cpu with sp := t.cpu.sp } }.OnlyRegs t (pairRegs p))
  ∧ ∀ s : State, encode .ldSpHl = [0xF9]
    ∧ exec .ldSpHl s = .next { s with cpu := { s.cpu with
        sp := word16 s.cpu.h s.cpu.l, cycles := 8 } }

/-- `LD [a16],SP`: the low byte at a16, then the high byte at a16 + 1 mod 2^16 (40_loads.md R179,
20_memory.md R52).
It rests on the spec's own choices D1, D21, D38 (92_eei_decisions.md); that an access is refused also where
there are no RAM banks is log entry 12, and that the copy of an OAM DMA is refused, whatever instruction
starts it, is log entry 15 (both DEDUCED). -/
def Obligations.StoreStackPointer : Prop :=
  ∀ (a : Word) (s : State),
    encode (.ldIndA16Sp a) = [0x08, loByte a, hiByte a]
    ∧ (s.storable16 a s.cpu.sp = true → ∃ m₁ m₂ t,
        s.memWrite a (loByte s.cpu.sp) = .ok m₁ ∧ m₁.memWrite (a + 1) (hiByte s.cpu.sp) = .ok m₂
        ∧ exec (.ldIndA16Sp a) s = .next t ∧ t = { m₂ with cpu := { s.cpu with cycles := 20 } }
        ∧ ∀ b, storeReach s.cart.mbc a b = false → storeReach s.cart.mbc (a + 1) b = false →
            t.memRead b = s.memRead b)
    ∧ (s.storable16 a s.cpu.sp = false → ∃ e, s.Refuses e.record ∧ exec (.ldIndA16Sp a) s = .fault e)

/-- `PUSH rr`: the high byte at SP - 1, then the low byte at SP - 2, SP lowered by 2, no flag and no other
register changed (40_loads.md R182, R184, 00_scope.md R13, 20_memory.md R76).
It rests on the spec's own choices D1, D21, D38 (92_eei_decisions.md); that an access is refused also where
there are no RAM banks is log entry 12, and that the copy of an OAM DMA is refused, whatever instruction
starts it, is log entry 15 (both DEDUCED). -/
def Obligations.PushStores : Prop :=
  ∀ (p : StackPair) (s : State),
    let v := s.stackPair p
    let hi := s.cpu.sp - 1
    let lo := s.cpu.sp - 2
    encode (.pushPair p) = [BitVec.ofNat 8 (0xC5 + 16 * p.code)]
    ∧ (s.storable16 lo v = true → ∃ m₁ m₂ t,
        s.memWrite hi (hiByte v) = .ok m₁ ∧ m₁.memWrite lo (loByte v) = .ok m₂
        ∧ exec (.pushPair p) s = .next t
        ∧ t = { m₂ with cpu := { s.cpu with sp := s.cpu.sp - 2, cycles := 16 } }
        ∧ (∀ b, storeReach s.cart.mbc hi b = false → storeReach s.cart.mbc lo b = false →
            t.memRead b = s.memRead b)
        ∧ (plainRam hi = true → plainRam lo = true →
            t.memRead hi = .ok (hiByte v) ∧ t.memRead lo = .ok (loByte v)))
    ∧ (s.storable16 lo v = false → ∃ e, s.Refuses e.record ∧ exec (.pushPair p) s = .fault e)

/-- `POP rr`: the low byte from SP, the high byte from SP + 1, SP raised by 2; POP AF loads the flags from
the low byte and drops its low nibble (40_loads.md R183, R185).
It rests on the spec's own choices D1, D21, D38 (92_eei_decisions.md); that an access is refused also where
there are no RAM banks is log entry 12 (DEDUCED). -/
def Obligations.PopLoads : Prop :=
  ∀ (p : StackPair) (s : State),
    encode (.popPair p) = [BitVec.ofNat 8 (0xC1 + 16 * p.code)]
    ∧ (s.readable16 s.cpu.sp = true → ∃ lo hi t,
        s.memRead s.cpu.sp = .ok lo ∧ s.memRead (s.cpu.sp + 1) = .ok hi
        ∧ exec (.popPair p) s = .next t
        ∧ t.stackPair p = word16 hi (if p = .af then lo &&& 0xF0 else lo)
        ∧ (p ≠ .af → t.cpu.f = s.cpu.f) ∧ t.cpu.sp = s.cpu.sp + 2 ∧ t.cpu.cycles = 12
        ∧ { s with cpu := { s.cpu with sp := s.cpu.sp + 2 } }.OnlyRegs t (stackPairRegs p))
    ∧ (s.readable16 s.cpu.sp = false → ∃ e, s.Refuses e.record ∧ exec (.popPair p) s = .fault e)

/-- A push followed by a pop of the same pair restores it, the flags too, and SP; a CALL or RST followed by a
RET comes back to the instruction after it (40_loads.md R183, R185, 44_control.md R306, R308, R311). The
stack is plain RAM, and for AF the low nibble of F is zero, as every step keeps it.
It rests on the spec's own choices D1 (92_eei_decisions.md). -/
def Obligations.StackRoundTrip : Prop :=
  ∀ s : State, plainRam (s.cpu.sp - 1) = true → plainRam (s.cpu.sp - 2) = true →
    (∀ p : StackPair, (p = .af → s.cpu.f &&& 0x0F = 0) →
      ∃ t u, exec (.pushPair p) s = .next t ∧ exec (.popPair p) t = .next u
        ∧ u.stackPair p = s.stackPair p ∧ u.cpu = { s.cpu with cycles := 12 })
    ∧ (∀ a : Word, ∃ t u, exec (.callA16 a) s = .next t ∧ t.cpu.pc = a
        ∧ exec .ret t = .next u ∧ u.cpu = { s.cpu with cycles := 16 })
    ∧ ∀ n : Fin 8, ∃ t u, exec (.restart n) s = .next t ∧ t.cpu.pc = BitVec.ofNat 16 (8 * n.val)
        ∧ exec .ret t = .next u ∧ u.cpu = { s.cpu with cycles := 16 }

/-! ## 8-bit arithmetic and logic -/

/-- `INC r8` and `DEC r8`: the register moves by one mod 2^8; Z, N and H are computed and C is unchanged
(41_alu8.md R202, R204). -/
def Obligations.IncDecRegister : Prop :=
  ∀ (dst : Reg8) (s : State),
    let old := (s.reg dst).toNat
    encode (.incReg dst) = [BitVec.ofNat 8 (0x04 + 8 * dst.code)]
    ∧ encode (.decReg dst) = [BitVec.ofNat 8 (0x05 + 8 * dst.code)]
    ∧ (∃ t, exec (.incReg dst) s = .next t ∧ (t.reg dst).toNat = (old + 1) % 256
      ∧ t.cpu.f = flagByte (decide (old = 255)) false (decide (old % 16 = 15)) s.flagC
      ∧ t.cpu.cycles = 4 ∧ s.OnlyRegs t [dst])
    ∧ ∃ t, exec (.decReg dst) s = .next t ∧ (t.reg dst).toNat = (old + 255) % 256
      ∧ t.cpu.f = flagByte (decide (old = 1)) true (decide (old % 16 = 0)) s.flagC
      ∧ t.cpu.cycles = 4 ∧ s.OnlyRegs t [dst]

/-- ADD, ADC, SUB and SBC, register and immediate forms: exact arithmetic on naturals, truncated, with the
half carry or borrow out of bit 3 and the carry or borrow out of bit 7; the incoming carry counts in both
(41_alu8.md R201, R206, R208, R209, R211, R212, R214, R215, R217).
It rests on the spec's own choice D3 (92_eei_decisions.md): Z is set from the result. -/
def Obligations.AluArithmetic : Prop :=
  ∀ (op : AluOp) (r : Reg8) (n : Byte) (s : State) (i : Instr) (bytes : List Byte) (v : Byte) (k : Nat),
    (i, bytes, v, k) ∈ ([
      (.aluReg op r, [BitVec.ofNat 8 (0x80 + 8 * op.code + r.code)], s.reg r, 4),
      (.aluImm n op, [BitVec.ofNat 8 (0xC6 + 8 * op.code), n], n, 8)] :
        List (Instr × List Byte × Byte × Nat)) →
    op = .add ∨ op = .adc ∨ op = .sub ∨ op = .sbc →
    let A := s.cpu.a.toNat
    let V := v.toNat
    let C := if (op = .adc ∨ op = .sbc) ∧ s.flagC = true then 1 else 0
    encode i = bytes
    ∧ ∃ t, exec i s = .next t ∧ t.cpu.cycles = k ∧ s.OnlyRegs t [.a]
      ∧ (op = .add ∨ op = .adc →
        t.cpu.a.toNat = (A + V + C) % 256
        ∧ t.cpu.f = flagByte (decide ((A + V + C) % 256 = 0)) false
            (decide (A % 16 + V % 16 + C > 15)) (decide (A + V + C > 255)))
      ∧ (op = .sub ∨ op = .sbc →
        (t.cpu.a.toNat : Int) = ((A : Int) - V - C) % 256
        ∧ t.cpu.f = flagByte (decide (((A : Int) - V - C) % 256 = 0)) true
            (decide (A % 16 < V % 16 + C)) (decide (A < V + C)))

/-- AND, XOR, OR and CP, register and immediate forms; CP leaves A (41_alu8.md R218, R220, R221, R223, R224,
R226, R227, R229).
It rests on the spec's own choice D3 (92_eei_decisions.md): Z is set from the result. -/
def Obligations.AluLogicAndCompare : Prop :=
  ∀ (op : AluOp) (r : Reg8) (n : Byte) (s : State) (i : Instr) (bytes : List Byte) (v : Byte) (k : Nat),
    (i, bytes, v, k) ∈ ([
      (.aluReg op r, [BitVec.ofNat 8 (0x80 + 8 * op.code + r.code)], s.reg r, 4),
      (.aluImm n op, [BitVec.ofNat 8 (0xC6 + 8 * op.code), n], n, 8)] :
        List (Instr × List Byte × Byte × Nat)) →
    op = .and ∨ op = .xor ∨ op = .or ∨ op = .cp →
    encode i = bytes
    ∧ ∃ t, exec i s = .next t ∧ t.cpu.cycles = k ∧ s.OnlyRegs t [.a]
      ∧ (op = .and → t.cpu.a = s.cpu.a &&& v
        ∧ t.cpu.f = flagByte (decide (s.cpu.a &&& v = 0)) false true false)
      ∧ (op = .xor → t.cpu.a = s.cpu.a ^^^ v
        ∧ t.cpu.f = flagByte (decide (s.cpu.a ^^^ v = 0)) false false false)
      ∧ (op = .or → t.cpu.a = s.cpu.a ||| v
        ∧ t.cpu.f = flagByte (decide (s.cpu.a ||| v = 0)) false false false)
      ∧ (op = .cp → t.cpu.a = s.cpu.a
        ∧ t.cpu.f = flagByte (decide (s.cpu.a = v)) true
            (decide (s.cpu.a.toNat % 16 < v.toNat % 16)) (decide (s.cpu.a.toNat < v.toNat)))

/-- The memory forms of the ALU operations: the byte at HL as operand, with the effect of the immediate form
(41_alu8.md R200, R207, R210, R213, R216, R219, R222, R225, R228).
It rests on the spec's own choice D21 (92_eei_decisions.md); that an access is refused also where there are
no RAM banks is log entry 12 (DEDUCED). -/
def Obligations.AluMemory : Prop :=
  ∀ (op : AluOp) (s : State),
    encode (.aluHl op) = [BitVec.ofNat 8 (0x86 + 8 * op.code)]
    ∧ (s.readable (word16 s.cpu.h s.cpu.l) = true → ∃ v t,
        s.memRead (word16 s.cpu.h s.cpu.l) = .ok v
        ∧ exec (.aluHl op) s = .next t ∧ exec (.aluImm v op) s = .next t)
    ∧ (s.readable (word16 s.cpu.h s.cpu.l) = false →
        ∃ e, s.Refuses e.record ∧ exec (.aluHl op) s = .fault e)

/-- DAA, for every A and every flags (41_alu8.md R230). -/
def Obligations.DecimalAdjust : Prop :=
  ∀ s : State,
    let A := s.cpu.a.toNat
    let high := s.flagC = true ∨ A > 0x99
    let low := s.flagH = true ∨ A % 16 > 9
    encode .daa = [0x27]
    ∧ ∃ t, exec .daa s = .next t ∧ t.cpu.cycles = 4 ∧ s.OnlyRegs t [.a]
      ∧ (s.flagN = false →
        t.cpu.a.toNat = (A + (if high then 0x60 else 0) + (if low then 0x06 else 0)) % 256
        ∧ t.flagC = decide high)
      ∧ (s.flagN = true →
        (t.cpu.a.toNat : Int)
          = ((A : Int) - (if s.flagC then 0x60 else 0) - (if s.flagH then 0x06 else 0)) % 256
        ∧ t.flagC = s.flagC)
      ∧ t.cpu.f = flagByte (decide (t.cpu.a = 0)) s.flagN false t.flagC

/-- After an ADD, ADC, SUB or SBC of two BCD bytes, DAA leaves the BCD sum or difference mod 100, with C the
decimal carry or borrow (41_alu8.md R230, from R206 to R217). -/
def Obligations.DecimalArithmetic : Prop :=
  ∀ (s : State) (v : Byte) (op : AluOp),
    let bcd : Byte → Nat := fun b => b.toNat / 16 * 10 + b.toNat % 16
    let isBcd : Byte → Prop := fun b => b.toNat / 16 ≤ 9 ∧ b.toNat % 16 ≤ 9
    let C := if (op = .adc ∨ op = .sbc) ∧ s.flagC = true then 1 else 0
    isBcd s.cpu.a → isBcd v →
    (op = .add ∨ op = .adc → ∃ t u, exec (.aluImm v op) s = .next t ∧ exec .daa t = .next u
      ∧ isBcd u.cpu.a ∧ bcd u.cpu.a = (bcd s.cpu.a + bcd v + C) % 100
      ∧ u.flagC = decide (bcd s.cpu.a + bcd v + C ≥ 100))
    ∧ (op = .sub ∨ op = .sbc → ∃ t u, exec (.aluImm v op) s = .next t ∧ exec .daa t = .next u
      ∧ isBcd u.cpu.a ∧ (bcd u.cpu.a : Int) = ((bcd s.cpu.a : Int) - bcd v - C) % 100
      ∧ u.flagC = decide (bcd s.cpu.a < bcd v + C))

/-- CPL, SCF and CCF (41_alu8.md R231, R232, R233). -/
def Obligations.ComplementAndCarry : Prop :=
  ∀ s : State,
    encode .cpl = [0x2F] ∧ encode .scf = [0x37] ∧ encode .ccf = [0x3F]
    ∧ exec .cpl s = .next { s with cpu := { s.cpu with
        a := ~~~s.cpu.a, f := flagByte s.flagZ true true s.flagC, cycles := 4 } }
    ∧ exec .scf s = .next { s with cpu := { s.cpu with
        f := flagByte s.flagZ false false true, cycles := 4 } }
    ∧ exec .ccf s = .next { s with cpu := { s.cpu with
        f := flagByte s.flagZ false false (!s.flagC), cycles := 4 } }

/-! ## 16-bit arithmetic -/

/-- `INC rr`, `DEC rr` and `ADD HL,rr`: the first two change no flag; the sum leaves Z, with the carries out
of bits 11 and 15 (42_alu16.md R241, R242, R243). -/
def Obligations.PairArithmetic : Prop :=
  ∀ (p : Pair) (s : State),
    let hl := (word16 s.cpu.h s.cpu.l).toNat
    let v := (s.pair p).toNat
    encode (.incPair p) = [BitVec.ofNat 8 (0x03 + 16 * p.code)]
    ∧ encode (.decPair p) = [BitVec.ofNat 8 (0x0B + 16 * p.code)]
    ∧ encode (.addHlPair p) = [BitVec.ofNat 8 (0x09 + 16 * p.code)]
    ∧ (∃ t, exec (.incPair p) s = .next t ∧ (t.pair p).toNat = (v + 1) % 65536 ∧ t.cpu.f = s.cpu.f
      ∧ t.cpu.cycles = 8 ∧ (p ≠ .sp → t.cpu.sp = s.cpu.sp)
      ∧ { s with cpu := { s.cpu with sp := t.cpu.sp } }.OnlyRegs t (pairRegs p))
    ∧ (∃ t, exec (.decPair p) s = .next t ∧ (t.pair p).toNat = (v + 65535) % 65536
      ∧ t.cpu.f = s.cpu.f ∧ t.cpu.cycles = 8 ∧ (p ≠ .sp → t.cpu.sp = s.cpu.sp)
      ∧ { s with cpu := { s.cpu with sp := t.cpu.sp } }.OnlyRegs t (pairRegs p))
    ∧ ∃ t, exec (.addHlPair p) s = .next t ∧ (word16 t.cpu.h t.cpu.l).toNat = (hl + v) % 65536
      ∧ t.cpu.f = flagByte s.flagZ false (decide (hl % 4096 + v % 4096 > 4095))
          (decide (hl + v > 65535))
      ∧ t.cpu.cycles = 8 ∧ s.OnlyRegs t [.h, .l]

/-- `ADD SP,e8` and `LD HL,SP+e8`: the sum with the signed byte; Z and N cleared; H and C from the unsigned
addition of the byte to the low byte of SP (42_alu16.md R240, R244, R245). -/
def Obligations.StackPointerOffset : Prop :=
  ∀ (e : Byte) (s : State),
    let sp := s.cpu.sp.toNat
    let f := flagByte false false (decide (sp % 16 + e.toNat % 16 > 15))
      (decide (sp % 256 + e.toNat > 255))
    encode (.addSpE8 e) = [0xE8, e] ∧ encode (.ldHlSpE8 e) = [0xF8, e]
    ∧ ∃ w : Word, (w.toNat : Int) = ((sp : Int) + e.toInt) % 65536
      ∧ exec (.addSpE8 e) s = .next { s with cpu := { s.cpu with sp := w, f := f, cycles := 16 } }
      ∧ exec (.ldHlSpE8 e) s = .next { s with cpu := { s.cpu with
          h := hiByte w, l := loByte w, f := f, cycles := 12 } }

/-! ## Rotates, shifts and bits -/

/-- The rotates and shifts of registers. The result and C are those of the table of 43_rotate_shift_bit.md
R260; the accumulator forms clear Z, N and H (R261 to R264); the CB register forms set Z from the result and
clear N and H (R266, R268, R270, R272, R274, R276, R278, R280). -/
def Obligations.RotateRegister : Prop :=
  (∀ (s : State) (i : Instr) (bytes : List Byte) (op : RotOp),
    (i, bytes, op) ∈ ([(.rlca, [0x07], .rlc), (.rrca, [0x0F], .rrc), (.rla, [0x17], .rl),
      (.rra, [0x1F], .rr)] : List (Instr × List Byte × RotOp)) →
    encode i = bytes
    ∧ ∃ t, exec i s = .next t ∧ t.cpu.a.toNat = op.result s.cpu.a.toNat (bit s.flagC)
      ∧ t.cpu.f = flagByte false false false (op.out s.cpu.a.toNat)
      ∧ t.cpu.cycles = 4 ∧ s.OnlyRegs t [.a])
  ∧ ∀ (op : RotOp) (r : Reg8) (s : State),
    let v := (s.reg r).toNat
    encode (.rotReg op r) = [0xCB, BitVec.ofNat 8 (8 * op.code + r.code)]
    ∧ ∃ t, exec (.rotReg op r) s = .next t ∧ (t.reg r).toNat = op.result v (bit s.flagC)
      ∧ t.cpu.f = flagByte (decide (op.result v (bit s.flagC) = 0)) false false (op.out v)
      ∧ t.cpu.cycles = 8 ∧ s.OnlyRegs t [r]

/-- The instructions that read the byte at HL and write it back: INC and DEC (41_alu8.md R203, R205), the CB
rotates and shifts (43_rotate_shift_bit.md R265, R267 to R281), RES and SET (R285, R287). The new byte is a
function of the old one; the flags are those of the register form; nothing stands between the two accesses
(20_memory.md R73).
It rests on the spec's own choice D21 (92_eei_decisions.md); that an access is refused also where there are
no RAM banks is log entry 12, and that the copy of an OAM DMA is refused, whatever instruction starts it, is
log entry 15 (both DEDUCED). -/
def Obligations.ReadModifyWrite : Prop :=
  ∀ (op : RotOp) (n : Fin 8) (s : State) (i : Instr) (bytes : List Byte) (new : Nat → Nat)
    (flags : Nat → Byte) (k : Nat),
    let hl := word16 s.cpu.h s.cpu.l
    let c := bit s.flagC
    (i, bytes, new, flags, k) ∈ ([
      (.incIndHl, [0x34], fun v => (v + 1) % 256,
        fun v => flagByte (decide (v = 255)) false (decide (v % 16 = 15)) s.flagC, 12),
      (.decIndHl, [0x35], fun v => (v + 255) % 256,
        fun v => flagByte (decide (v = 1)) true (decide (v % 16 = 0)) s.flagC, 12),
      (.rotHl op, [0xCB, BitVec.ofNat 8 (0x06 + 8 * op.code)], fun v => op.result v c,
        fun v => flagByte (decide (op.result v c = 0)) false false (op.out v), 16),
      (.resHl n, [0xCB, BitVec.ofNat 8 (0x86 + 8 * n.val)],
        fun v => v - v / 2 ^ n.val % 2 * 2 ^ n.val, fun _ => s.cpu.f, 16),
      (.setHl n, [0xCB, BitVec.ofNat 8 (0xC6 + 8 * n.val)],
        fun v => v + (1 - v / 2 ^ n.val % 2) * 2 ^ n.val, fun _ => s.cpu.f, 16)] :
        List (Instr × List Byte × (Nat → Nat) × (Nat → Byte) × Nat)) →
    encode i = bytes
    ∧ (s.readable hl = true → ∃ v, s.memRead hl = .ok v
      ∧ (s.storable hl (BitVec.ofNat 8 (new v.toNat)) = true → ∃ m t,
          s.memWrite hl (BitVec.ofNat 8 (new v.toNat)) = .ok m ∧ new v.toNat < 256
          ∧ exec i s = .next t
          ∧ t = { m with cpu := { s.cpu with f := flags v.toNat, cycles := k } }
          ∧ ∀ b, storeReach s.cart.mbc hl b = false → t.memRead b = s.memRead b)
      ∧ (s.storable hl (BitVec.ofNat 8 (new v.toNat)) = false →
          ∃ e, s.Refuses e.record ∧ exec i s = .fault e))
    ∧ (s.readable hl = false → ∃ e, s.Refuses e.record ∧ exec i s = .fault e)

/-- `BIT b`: Z is set where the bit is 0, N cleared, H set, C and everything else unchanged; the memory form
reads and does not write (43_rotate_shift_bit.md R282, R283).
It rests on the spec's own choice D21 (92_eei_decisions.md); that an access is refused also where there are
no RAM banks is log entry 12 (DEDUCED). -/
def Obligations.BitTests : Prop :=
  ∀ (n : Fin 8) (r : Reg8) (s : State),
    let hl := word16 s.cpu.h s.cpu.l
    encode (.bitReg n r) = [0xCB, BitVec.ofNat 8 (0x40 + 8 * n.val + r.code)]
    ∧ encode (.bitHl n) = [0xCB, BitVec.ofNat 8 (0x46 + 8 * n.val)]
    ∧ exec (.bitReg n r) s = .next { s with cpu := { s.cpu with
        f := flagByte (decide ((s.reg r).toNat / 2 ^ n.val % 2 = 0)) false true s.flagC, cycles := 8 } }
    ∧ (s.readable hl = true → ∃ v, s.memRead hl = .ok v
      ∧ exec (.bitHl n) s = .next { s with cpu := { s.cpu with
          f := flagByte (decide (v.toNat / 2 ^ n.val % 2 = 0)) false true s.flagC, cycles := 12 } })
    ∧ (s.readable hl = false → ∃ e, s.Refuses e.record ∧ exec (.bitHl n) s = .fault e)

/-- `RES b,r8` and `SET b,r8`: the one bit is cleared or set, the other seven and all flags unchanged
(43_rotate_shift_bit.md R284, R286). -/
def Obligations.BitWrites : Prop :=
  ∀ (n : Fin 8) (r : Reg8) (s : State),
    encode (.resReg n r) = [0xCB, BitVec.ofNat 8 (0x80 + 8 * n.val + r.code)]
    ∧ encode (.setReg n r) = [0xCB, BitVec.ofNat 8 (0xC0 + 8 * n.val + r.code)]
    ∧ (∃ t, exec (.resReg n r) s = .next t
      ∧ (∀ j, j < 8 → (t.reg r).getLsbD j = (decide (j ≠ n.val) && (s.reg r).getLsbD j))
      ∧ t.cpu.f = s.cpu.f ∧ t.cpu.cycles = 8 ∧ s.OnlyRegs t [r])
    ∧ ∃ t, exec (.setReg n r) s = .next t
      ∧ (∀ j, j < 8 → (t.reg r).getLsbD j = (decide (j = n.val) || (s.reg r).getLsbD j))
      ∧ t.cpu.f = s.cpu.f ∧ t.cpu.cycles = 8 ∧ s.OnlyRegs t [r]

/-! ## Control flow -/

/-- The jumps, taken and not: PC (already past the instruction) and the cycle count change, nothing else
(44_control.md R300 to R305). -/
def Obligations.Jumps : Prop :=
  ∀ (a : Word) (e : Byte) (cc : Cond) (taken : Bool) (s : State),
    (cc, taken) ∈ [(Cond.nz, !s.flagZ), (.z, s.flagZ), (.nc, !s.flagC), (.c, s.flagC)] →
    ∃ rel : Word, (rel.toNat : Int) = ((s.cpu.pc.toNat : Int) + e.toInt) % 65536
      ∧ encode (.jpA16 a) = [0xC3, loByte a, hiByte a] ∧ encode .jpHl = [0xE9]
      ∧ encode (.jrE8 e) = [0x18, e]
      ∧ encode (.jpCond a cc) = [BitVec.ofNat 8 (0xC2 + 8 * cc.code), loByte a, hiByte a]
      ∧ encode (.jrCond e cc) = [BitVec.ofNat 8 (0x20 + 8 * cc.code), e]
      ∧ exec (.jpA16 a) s = .next { s with cpu := { s.cpu with pc := a, cycles := 16 } }
      ∧ exec .jpHl s = .next { s with cpu := { s.cpu with
          pc := word16 s.cpu.h s.cpu.l, cycles := 4 } }
      ∧ exec (.jrE8 e) s = .next { s with cpu := { s.cpu with pc := rel, cycles := 12 } }
      ∧ exec (.jpCond a cc) s = .next { s with cpu := { s.cpu with
          pc := if taken then a else s.cpu.pc, cycles := if taken then 16 else 12 } }
      ∧ exec (.jrCond e cc) s = .next { s with cpu := { s.cpu with
          pc := if taken then rel else s.cpu.pc, cycles := if taken then 12 else 8 } }

/-- CALL, its conditional forms and RST: the address after the instruction is pushed, then PC is the target;
a call not taken makes no stack access (44_control.md R306, R307, R311).
It rests on the spec's own choices D1, D21, D38 (92_eei_decisions.md); that an access is refused also where
there are no RAM banks is log entry 12, and that the copy of an OAM DMA is refused, whatever instruction
starts it, is log entry 15 (both DEDUCED). -/
def Obligations.Calls : Prop :=
  ∀ (a : Word) (n : Fin 8) (cc : Cond) (taken : Bool) (s : State) (i : Instr) (target : Word) (k : Nat),
    let hi := s.cpu.sp - 1
    let lo := s.cpu.sp - 2
    (cc, taken) ∈ [(Cond.nz, !s.flagZ), (.z, s.flagZ), (.nc, !s.flagC), (.c, s.flagC)] →
    encode (.callA16 a) = [0xCD, loByte a, hiByte a]
    ∧ encode (.callCond a cc) = [BitVec.ofNat 8 (0xC4 + 8 * cc.code), loByte a, hiByte a]
    ∧ encode (.restart n) = [BitVec.ofNat 8 (0xC7 + 8 * n.val)]
    ∧ (taken = false →
      exec (.callCond a cc) s = .next { s with cpu := { s.cpu with cycles := 12 } })
    ∧ ((i, target, k) ∈ ([(.callA16 a, a, 24), (.restart n, BitVec.ofNat 16 (8 * n.val), 16)] :
          List (Instr × Word × Nat))
        ∨ (taken = true ∧ i = .callCond a cc ∧ target = a ∧ k = 24) →
      (s.storable16 lo s.cpu.pc = true → ∃ m₁ m₂ t,
        s.memWrite hi (hiByte s.cpu.pc) = .ok m₁ ∧ m₁.memWrite lo (loByte s.cpu.pc) = .ok m₂
        ∧ exec i s = .next t
        ∧ t = { m₂ with cpu := { s.cpu with sp := s.cpu.sp - 2, pc := target, cycles := k } }
        ∧ (∀ b, storeReach s.cart.mbc hi b = false → storeReach s.cart.mbc lo b = false →
            t.memRead b = s.memRead b)
        ∧ (plainRam hi = true → plainRam lo = true →
            t.memRead hi = .ok (hiByte s.cpu.pc) ∧ t.memRead lo = .ok (loByte s.cpu.pc)))
      ∧ (s.storable16 lo s.cpu.pc = false → ∃ e, s.Refuses e.record ∧ exec i s = .fault e))

/-- RET, RETI and the conditional returns: PC is popped, low byte first; RETI sets IME at once and clears
`ime_scheduled`; a return not taken makes no stack access (44_control.md R308, R309, R310).
It rests on the spec's own choices D1, D21, D38, D41 (92_eei_decisions.md); that an access is refused also
where there are no RAM banks is log entry 12 (DEDUCED). -/
def Obligations.Returns : Prop :=
  ∀ (cc : Cond) (taken : Bool) (s : State) (i : Instr) (ime sched : Bool) (k : Nat),
    (cc, taken) ∈ [(Cond.nz, !s.flagZ), (.z, s.flagZ), (.nc, !s.flagC), (.c, s.flagC)] →
    encode .ret = [0xC9] ∧ encode .reti = [0xD9]
    ∧ encode (.retCond cc) = [BitVec.ofNat 8 (0xC0 + 8 * cc.code)]
    ∧ (taken = false → exec (.retCond cc) s = .next { s with cpu := { s.cpu with cycles := 8 } })
    ∧ ((i, ime, sched, k) ∈ ([(.ret, s.cpu.ime, s.cpu.imeScheduled, 16), (.reti, true, false, 16)] :
          List (Instr × Bool × Bool × Nat))
        ∨ (taken = true ∧ i = .retCond cc ∧ ime = s.cpu.ime ∧ sched = s.cpu.imeScheduled ∧ k = 20) →
      (s.readable16 s.cpu.sp = true → ∃ lo hi,
        s.memRead s.cpu.sp = .ok lo ∧ s.memRead (s.cpu.sp + 1) = .ok hi
        ∧ exec i s = .next { s with cpu := { s.cpu with
            sp := s.cpu.sp + 2, pc := word16 hi lo, ime := ime, imeScheduled := sched, cycles := k } })
      ∧ (s.readable16 s.cpu.sp = false → ∃ e, s.Refuses e.record ∧ exec i s = .fault e))

/-! ## System instructions -/

/-- NOP, DI, EI and HALT; HALT with IME = 0 and a source pending arms the HALT bug, else the CPU halts
(45_system.md R330, R331, R333, R334).
It rests on the spec's own choices D4, D5, D6 (92_eei_decisions.md). -/
def Obligations.ControlInstructions : Prop :=
  ∀ s : State,
    encode .nop = [0x00] ∧ encode .di = [0xF3] ∧ encode .ei = [0xFB] ∧ encode .halt = [0x76]
    ∧ exec .nop s = .next { s with cpu := { s.cpu with cycles := 4 } }
    ∧ exec .di s = .next { s with cpu := { s.cpu with
        ime := false, imeScheduled := false, cycles := 4 } }
    ∧ (s.params.eiDelay = true →
      exec .ei s = .next { s with cpu := { s.cpu with imeScheduled := true, cycles := 4 } })
    ∧ (s.params.eiDelay = false →
      exec .ei s = .next { s with cpu := { s.cpu with ime := true, cycles := 4 } })
    ∧ (s.cpu.ime = false → s.io.ie &&& s.io.ifl &&& 0x1F ≠ 0 →
      exec .halt s = .next { s with cpu := { s.cpu with haltBug := true, cycles := 4 } })
    ∧ (s.cpu.ime = true ∨ s.io.ie &&& s.io.ifl &&& 0x1F = 0 →
      exec .halt s = .next { s with cpu := { s.cpu with halted := true, cycles := 4 } })

/-- STOP: a fault in its Fault mode, recorded at the 0x10 byte; in Nop2 the second byte is consumed and
ignored and nothing else happens (45_system.md R332).
It rests on the spec's own choices D8, D21 (92_eei_decisions.md); that the Fault mode stops without reading
the second byte is log entry 9, and that an access is refused also where there are no RAM banks is log entry
12 (both DEDUCED). -/
def Obligations.StopInstruction : Prop :=
  ∀ s : State,
    (s.params.stopMode = .fault → exec .stop s = .fault (s.stop (.unmodelled .stop s.cpu.opPc)))
    ∧ (s.params.stopMode = .nop2 → s.readable s.cpu.pc = true →
      exec .stop s = .next { s with cpu := { s.cpu with pc := s.cpu.pc + 1, cycles := 4 } })
    ∧ (s.params.stopMode = .nop2 → s.readable s.cpu.pc = false →
      ∃ e, s.Refuses e.record ∧ exec .stop s = .fault e)

/-- The CB prefix: executing the pair is executing the CB row, for each of the 256 rows, and every row
completes where the controller refuses no access to its RAM (45_system.md R335, 30_encoding.md
R132, R140). -/
def Obligations.PrefixRunsRow : Prop :=
  ∀ (cbop : Byte) (s : State),
    exec (.prefixCb cbop) s = exec (decodeCb cbop) s
    ∧ (∀ rest, decode (0xCB :: cbop :: rest) = .ok (decodeCb cbop, rest))
    ∧ (s.cart.mbc.allowsRam = true → ∃ t, exec (.prefixCb cbop) s = .next t)

/-- The eleven illegal opcodes, and no other, raise DecodeError with the opcode and its address; a step that
fetches one faults with that record, and of the state it leaves only PC has moved, by the opcode fetch, which
under the HALT bug does not move it (45_system.md R336, 30_encoding.md R142, 60_exceptions.md R380, R381).
It rests on the spec's own choices D6, D9 (92_eei_decisions.md); that `halted`, `halt_bug` and the model's own
`opPc` are as the fetch leaves them follows R354 and R355. -/
def Obligations.IllegalOpcodesFault : Prop :=
  let illegal : List Byte := [0xD3, 0xDB, 0xDD, 0xE3, 0xE4, 0xEB, 0xEC, 0xED, 0xF4, 0xFC, 0xFD]
  (∀ (op x y : Byte) (s : State) (pc : Word),
    (∃ left, exec (decodeBytes op x y) s = .fault (.decodeError op pc left)) ↔
      op ∈ illegal ∧ pc = s.cpu.opPc)
  ∧ (∀ (op x y : Byte) (s : State), op ∈ illegal →
    exec (decodeBytes op x y) s = .fault (s.stop (.decodeError op s.cpu.opPc)))
  ∧ ∀ (s : State) (op : Byte), s.fetches = true → s.memRead s.cpu.pc = .ok op → op ∈ illegal →
      step s = .fault (.decodeError op s.cpu.pc { s with
        fault := some (.decodeError op s.cpu.pc)
        cpu := { s.cpu with
          halted := false, haltBug := false, opPc := s.cpu.pc
          pc := if s.cpu.haltBug then s.cpu.pc else s.cpu.pc + 1 } })

/-! ## The timer and the PPU -/

/-- `timer.advance(n)` in closed form: DIV's counter rises by `n`, and DIV reads as its high byte; while TAC
bit 2 is set, TIMA rises by one for each threshold crossed, starting again from TMA on each overflow, and an
overflow sets IF bit 2 (60_exceptions.md R420, 10_state.md R39). -/
def Obligations.TimerAdvances : Prop :=
  ∀ (s : State) (n : Nat),
    let t := s.timerAdvance n
    let th := match s.timer.tac.toNat % 4 with
      | 0 => 1024
      | 1 => 16
      | 2 => 64
      | _ => 256
    let k := (s.timer.timaAcc + n) / th
    let tima := s.timer.tima.toNat
    let tma := s.timer.tma.toNat
    t = { s with timer := t.timer, io := t.io }
    ∧ t.timer.divCounter.toNat = (s.timer.divCounter.toNat + n) % 65536
    ∧ t.memRead 0xFF04 = .ok (hiByte t.timer.divCounter)
    ∧ t.timer.tma = s.timer.tma ∧ t.timer.tac = s.timer.tac
    ∧ (s.timer.tac.getLsbD 2 = false →
      t.timer.timaAcc = s.timer.timaAcc ∧ t.timer.tima = s.timer.tima ∧ t.io = s.io)
    ∧ (s.timer.tac.getLsbD 2 = true →
      t.timer.timaAcc = (s.timer.timaAcc + n) % th
      ∧ (tima + k < 256 → t.timer.tima.toNat = tima + k ∧ t.io = s.io)
      ∧ (256 ≤ tima + k →
        t.timer.tima.toNat = tma + (tima + k - 256) % (256 - tma)
        ∧ t.io = { s.io with ifl := s.io.ifl ||| 0x04 }))

/-- The PPU after a sequence of calls depends only on the sum of their cycle counts (60_exceptions.md
R402).
It rests on the spec's own choices D27 (92_eei_decisions.md). -/
def Obligations.PpuStepsAdd : Prop :=
  ∀ (s : State) (m n : Nat), (s.ppuStep m).ppuStep n = s.ppuStep (m + n)

/-- The end of each mode: the next mode, LY and the coincidence flag, the IF bits that VBlank and the enabled
STAT sources set, and line LY rendered at the end of PixelTransfer and nowhere else; inside a mode only
`modeclock` moves; nothing else changes (60_exceptions.md R401, R402, R403).
It rests on the spec's own choices D24, D25, D27 (92_eei_decisions.md). -/
def Obligations.ModeTransitions : Prop :=
  ∀ s : State, s.ppu.lcdc.getLsbD 7 = true → s.ppu.modeclock < s.ppu.mode.length →
    (∀ n, s.ppu.modeclock + n < s.ppu.mode.length →
      s.ppuStep n = { s with ppu := { s.ppu with modeclock := s.ppu.modeclock + n } })
    ∧
    let t := s.ppuStep (s.ppu.mode.length - s.ppu.modeclock)
    let next : Byte := if s.ppu.mode = .vBlank ∧ s.ppu.ly = 153 then 0 else s.ppu.ly + 1
    let newLine := s.ppu.mode = .hBlank ∨ s.ppu.mode = .vBlank
    let toVBlank := s.ppu.mode = .hBlank ∧ next = 144
    let stat := (newLine ∧ next = s.ppu.lyc ∧ s.ppu.statEnables.getLsbD 6 = true)
      ∨ (s.ppu.mode = .pixelTransfer ∧ s.ppu.statEnables.getLsbD 3 = true)
      ∨ (toVBlank ∧ s.ppu.statEnables.getLsbD 4 = true)
      ∨ (t.ppu.mode = .oamScan ∧ s.ppu.statEnables.getLsbD 5 = true)
    s.ppu.mode.length = (match s.ppu.mode with
      | .oamScan => 80
      | .pixelTransfer => 172
      | .hBlank => 204
      | .vBlank => 456)
    ∧ t.ppu.modeclock = 0
    ∧ t.ppu.mode = (match s.ppu.mode with
      | .oamScan => .pixelTransfer
      | .pixelTransfer => .hBlank
      | .hBlank => if next = 144 then .vBlank else .oamScan
      | .vBlank => if s.ppu.ly = 153 then .oamScan else .vBlank)
    ∧ t.ppu.ly = (if newLine then next else s.ppu.ly)
    ∧ t.ppu.coincidence = (if newLine then decide (next = s.ppu.lyc) else s.ppu.coincidence)
    ∧ t.ppu.frameReady = (if toVBlank then true else s.ppu.frameReady)
    ∧ t.ppu.frame = (if s.ppu.mode = .pixelTransfer then (s.renderLine s.ppu.ly.toNat).ppu.frame
        else s.ppu.frame)
    ∧ t.ppu = { s.ppu with
        mode := t.ppu.mode, modeclock := t.ppu.modeclock, ly := t.ppu.ly
        coincidence := t.ppu.coincidence, frameReady := t.ppu.frameReady, frame := t.ppu.frame }
    ∧ t.io = { s.io with ifl :=
        s.io.ifl ||| (if toVBlank then 0x01 else 0x00) ||| (if stat then 0x02 else 0x00) }
    ∧ t.cpu = s.cpu ∧ t.mem = s.mem ∧ t.cart = s.cart ∧ t.timer = s.timer
    ∧ t.params = s.params ∧ t.fault = s.fault

/-- One frame: from the start of line 0, 70224 cycles later the PPU is there again, and VBlank was raised
exactly once, at the transition to line 144 (60_exceptions.md R410, R401).
It rests on the spec's own choices D27 (92_eei_decisions.md). -/
def Obligations.FrameReturns : Prop :=
  (∀ s : State, s.ppu.lcdc.getLsbD 7 = true → s.ppu.mode = .oamScan → s.ppu.modeclock = 0 →
    s.ppu.ly = 0 →
    (let t := s.ppuStep 70224
     t.ppu.mode = .oamScan ∧ t.ppu.modeclock = 0 ∧ t.ppu.ly = 0 ∧ t.ppu.frameReady = true)
    ∧ (∀ n, n < 65664 → (s.ppuStep n).io.ifl.getLsbD 0 = s.io.ifl.getLsbD 0)
    ∧ (let t := s.ppuStep 65664
       t.ppu.mode = .vBlank ∧ t.ppu.modeclock = 0 ∧ t.ppu.ly = 144 ∧ t.io.ifl.getLsbD 0 = true))
  ∧ ∀ s : State, s.ppu.lcdc.getLsbD 7 = true → s.ppu.mode = .vBlank → s.ppu.modeclock = 0 →
    s.ppu.ly = 144 →
    ∀ n, n ≤ 4560 → (s.ppuStep n).io.ifl.getLsbD 0 = s.io.ifl.getLsbD 0

/-- A rendered line: each of the 160 columns of the line holds its pixel and no other column changes. The
pixel is the background's or the window's shade, covered by the kept sprite of lowest OAM index that draws
there. `index` is the colour index of a tile's pixel, `mapIndex` that of a point of a tile map, `bgIndex` that
of the background and window; the kept sprites are the first 10 on the line in OAM order, and a sprite's shade
is by its column, row, flips, size, priority and palette (60_exceptions.md R404, R405, R406, 20_memory.md
R62, R63).
It rests on the spec's own choices D28 (92_eei_decisions.md). -/
def Obligations.RenderedLine : Prop :=
  ∀ (s : State) (ly : Nat),
    let t := s.renderLine ly
    let byteAt : Nat → Nat := fun a => (s.mem.read a).toNat
    let lcdc : Nat → Bool := fun i => s.ppu.lcdc.getLsbD i
    let index : Nat → Nat → Nat → Nat := fun tile x y =>
      byteAt (0x8000 + 16 * tile + 2 * y + 1) / 2 ^ (7 - x) % 2 * 2
        + byteAt (0x8000 + 16 * tile + 2 * y) / 2 ^ (7 - x) % 2
    let mapIndex : Bool → Nat → Nat → Nat := fun high x y =>
      let e := byteAt ((if high then 0x9C00 else 0x9800) + 32 * (y / 8) + x / 8)
      index (if lcdc 4 = true ∨ 128 ≤ e then e else 256 + e) (x % 8) (y % 8)
    let window : Nat → Prop := fun x =>
      lcdc 0 = true ∧ lcdc 5 = true ∧ s.ppu.wy.toNat ≤ ly ∧ s.ppu.wx.toNat ≤ x + 7
    let bgIndex : Nat → Nat → Prop := fun x c =>
      (window x → c = mapIndex (lcdc 6) (x + 7 - s.ppu.wx.toNat) (ly - s.ppu.wy.toNat))
      ∧ (lcdc 0 = true → ¬window x → c = mapIndex (lcdc 3) ((x + s.ppu.scx.toNat) % 256)
          ((ly + s.ppu.scy.toNat) % 256))
      ∧ (lcdc 0 = false → c = 0)
    let shadeOf : Byte → Nat → BitVec 2 := fun pal c => BitVec.ofNat 2 (pal.toNat / 4 ^ c % 4)
    let height : Nat := if lcdc 2 then 16 else 8
    let onLine : Nat → Prop := fun n =>
      (byteAt (0xFE00 + 4 * n) : Int) - 16 ≤ ly ∧ (ly : Int) < (byteAt (0xFE00 + 4 * n) : Int) - 16 + height
    t = { s with ppu := { s.ppu with frame := t.ppu.frame } }
    ∧ (∀ x, x < 160 → t.ppu.frame.get (160 * ly + x) = s.pixel ly x)
    ∧ (∀ k, k < 160 * ly ∨ 160 * ly + 160 ≤ k → t.ppu.frame.get k = s.ppu.frame.get k)
    ∧ (s.keptSprites ly).length ≤ 10
    ∧ (s.keptSprites ly).Pairwise (· < ·)
    ∧ (∀ n ∈ s.keptSprites ly, n < 40 ∧ onLine n)
    ∧ (∀ n, n < 40 → onLine n → n ∉ s.keptSprites ly →
        (s.keptSprites ly).length = 10 ∧ ∀ m ∈ s.keptSprites ly, m < n)
    ∧ ∀ x,
      bgIndex x (s.bgIndex ly x)
      ∧ s.bgShade ly x = (if lcdc 0 then shadeOf s.ppu.bgp (s.bgIndex ly x) else 0)
      ∧ (lcdc 1 = false → s.pixel ly x = s.bgShade ly x)
      ∧ (lcdc 1 = true → s.pixel ly x =
        match (s.keptSprites ly).find? (fun n => (s.spriteShade ly n x).isSome) with
        | some n => (s.spriteShade ly n x).getD 0
        | none => s.bgShade ly x)
      ∧ ∀ n col, onLine n →
        let y := byteAt (0xFE00 + 4 * n)
        let left := byteAt (0xFE00 + 4 * n + 1)
        let number := byteAt (0xFE00 + 4 * n + 2)
        let attr := s.mem.read (0xFE00 + 4 * n + 3)
        let row := if attr.getLsbD 6 then height - 1 - (ly + 16 - y) else ly + 16 - y
        let tile := if lcdc 2 then number / 2 * 2 + row / 8 else number
        let c := index tile (if attr.getLsbD 5 then 7 - col else col) (row % 8)
        (x + 8 < left ∨ left + 8 ≤ x + 8 → s.spriteShade ly n x = none)
        ∧ (col < 8 → x + 8 = left + col → s.spriteShade ly n x =
          if c = 0 ∨ (attr.getLsbD 7 = true ∧ s.bgIndex ly x ≠ 0) then none
          else some (shadeOf (if attr.getLsbD 4 then s.ppu.obp1 else s.ppu.obp0) c))

/-- Turning the LCD off freezes the PPU in mode 0 at line 0 with nothing raised; turning it on starts line 0
in mode 2; a store that leaves bit 7 only stores the byte (60_exceptions.md R409).
It rests on the spec's own choices D25, D26 (92_eei_decisions.md). -/
def Obligations.LcdSwitch : Prop :=
  ∀ (s : State) (v : Byte), ∃ m, s.memWrite 0xFF40 v = .ok m
    ∧ m = { s with ppu := m.ppu }
    ∧ (s.ppu.lcdc.getLsbD 7 = v.getLsbD 7 → m.ppu = { s.ppu with lcdc := v })
    ∧ (s.ppu.lcdc.getLsbD 7 = true → v.getLsbD 7 = false →
      m.ppu = { s.ppu with lcdc := v, mode := .hBlank, ly := 0, modeclock := 0 })
    ∧ (s.ppu.lcdc.getLsbD 7 = false → v.getLsbD 7 = true →
      m.ppu = { s.ppu with lcdc := v, mode := .oamScan, ly := 0, modeclock := 0 })
    ∧ (v.getLsbD 7 = false → ∀ n, m.ppuStep n = m)
    ∧ (v.getLsbD 7 = false → ∃ w, m.memRead 0xFF41 = .ok w ∧ w.toNat % 4 = 0)

/-! ## The host and the launch -/

/-- What the host may do between steps, and that it keeps the invariant; its iteration, where the step does not
fault, is the step (60_exceptions.md R351, R371, R406, R440, R441).
It rests on the spec's own choices D13, D29 (92_eei_decisions.md); that these are functions beside `step`, and
the joypad a table of four nibbles, is log entry 6 (DESIGN CHOICE). -/
def Obligations.HostOperations : Prop :=
  ∀ (s : State) (j : Joypad) (row column : Nat),
    s.hostFrameReady = (s.ppu.frameReady, { s with ppu := { s.ppu with frameReady := false } })
    ∧ s.hostPixel row column = s.ppu.frame.get (160 * row + column)
    ∧ s.hostSetJoypad j = { s with io := { s.io with joypad := j } }
    ∧ s.hostRequestJoypad = { s with io := { s.io with ifl := s.io.ifl ||| 0x10 } }
    ∧ (s.Inv → s.hostFrameReady.2.Inv ∧ (s.hostSetJoypad j).Inv ∧ s.hostRequestJoypad.Inv)
    ∧ ∀ u, step s = .next u → s.hostIterate = u ∧ (s.Inv → s.hostIterate.Inv)

/-- The reset procedure: an unknown cartridge type builds no machine; a known one gives the PostBoot state,
or a BootRom state that starts at 0x0000 under the boot image with the LCD off; either way the controller is
the type's, its registers at their reset values, the cartridge and the parameters are the launch's, memory is
the draw, and the machine meets the invariant (00_scope.md R7, 10_state.md R49, 70_reset_and_hazards.md R450
to R453, 20_memory.md R80, R90, R100, R110, R115, 60_exceptions.md R383).
It rests on the spec's own choices D10, D16, D33 (92_eei_decisions.md); that opPc and cycles stand in the
CPU is log entry 4, that the parameters stand in State log entry 5, that MBC2's RAM is of the power-on draw
log entry 16, and that the length of external RAM is a parameter of its own log entry 17 (all DESIGN
CHOICE). -/
def Obligations.LaunchBuildsMachine : Prop :=
  ∀ p : Launch,
    let type := p.mbcType.toNat
    let table : Option Mbc :=
      if type ∈ [0x00, 0x08, 0x09] then some .romOnly
      else if type ∈ [0x01, 0x02, 0x03] then some (.mbc1 false 1 0 false)
      else if type ∈ [0x05, 0x06] then some (.mbc2 false 1)
      else if type ∈ [0x0F, 0x10, 0x11, 0x12, 0x13] then some (.mbc3 false 1 0)
      else if type ∈ [0x19, 0x1A, 0x1B, 0x1C, 0x1D, 0x1E] then some (.mbc5 false 1 0)
      else none
    (table = none → State.launch p = .error (.unsupportedCartridge p.mbcType))
    ∧ ∀ m, table = some m →
      ∃ s, State.launch p = .ok s ∧ s.Inv ∧ s.fault = none
        ∧ s.cpu.ime = false ∧ s.cpu.imeScheduled = false ∧ s.cpu.halted = false
        ∧ s.cpu.haltBug = false ∧ s.io.ie = 0
        ∧ s.cart.mbc = m ∧ s.cart.remapZero = p.remapZero
        ∧ s.cart.romBankCount = p.romBankCount ∧ s.cart.romSize = p.romSize
        ∧ s.cart.ramBankCount = p.ramBankCount ∧ s.cart.ramSize = p.ramSize
        ∧ (Memory.wf p.romBytes = true → ∀ i, s.cart.rom.read i = p.romBytes.read i)
        ∧ (Memory.wf p.ramInit = true → ∀ i, s.cart.ram.read i = p.ramInit.read i)
        ∧ (Cells.wf p.powerOn.ram4 = true → ∀ i, s.cart.ram4.get i = p.powerOn.ram4.get i)
        ∧ (Memory.wf p.powerOn.mem = true → ∀ a, 0x8000 ≤ a → a ≤ 0xFFFE →
          s.mem.read a = if (0xA000 ≤ a ∧ a ≤ 0xBFFF) ∨ (0xE000 ≤ a ∧ a ≤ 0xFDFF) ∨ (0xFF00 ≤ a ∧ a ≤ 0xFF7F)
            then 0x00 else p.powerOn.mem.read a)
        ∧ s.params.eiDelay = p.eiDelay ∧ s.params.stopMode = p.stopMode ∧ s.params.endPc = p.endPc
        ∧ (p.bootMode = .postBoot → s.cpu = State.reset.cpu ∧ s.timer = State.reset.timer
          ∧ s.ppu = State.reset.ppu ∧ s.io = { State.reset.io with joypad := p.joypad })
        ∧ (∀ image, p.bootMode = .bootRom image → s.cpu.pc = 0x0000 ∧ s.io.bootEnabled = true
          ∧ s.ppu.lcdc = 0x00 ∧ s.cpu.f = p.powerOn.f &&& 0xF0 ∧ s.cpu.sp = p.powerOn.sp
          ∧ s.cpu.a = p.powerOn.a ∧ s.cpu.b = p.powerOn.b ∧ s.cpu.c = p.powerOn.c
          ∧ s.cpu.d = p.powerOn.d ∧ s.cpu.e = p.powerOn.e ∧ s.cpu.h = p.powerOn.h
          ∧ s.cpu.l = p.powerOn.l
          ∧ s.io = { ie := 0, ifl := 0, p1 := 3, joypad := p.joypad, sb := 0, sc := 0, dma := 0
                     boot := 0, bootEnabled := true }
          ∧ s.timer = { divCounter := 0, timaAcc := 0, tima := 0, tma := 0, tac := 0 }
          ∧ s.ppu = { lcdc := 0, statEnables := 0, scy := 0, scx := 0, ly := 0, lyc := 0, bgp := 0
                      obp0 := 0, obp1 := 0, wy := 0, wx := 0, mode := .hBlank, modeclock := 0
                      coincidence := false, frameReady := false, frame := [] }
          ∧ (Memory.wf image = true → ∀ i, s.params.bootImage.read i = image.read i))

end
end

