-- ==== Sys2Proof/Laws/Cells.lean ====
section
/-! SUPPORT. The laws of sparse data: a read after a write, and the canonical form, which every write
keeps. -/

namespace Sys2Proof.Machine

variable {w : Nat}

theorem Cells.get_erase_same (m : Cells w) (a : Nat) : (m.erase a).get a = Cells.unlisted w := by
  induction m with
  | nil => rfl
  | cons e rest ih =>
    obtain ⟨k, v⟩ := e
    by_cases h : k = a
    · simpa [Cells.erase, h] using ih
    · simpa [Cells.erase, Cells.get, h] using ih

theorem Cells.get_erase_other (m : Cells w) {a b : Nat} (h : b ≠ a) : (m.erase a).get b = m.get b := by
  induction m with
  | nil => rfl
  | cons e rest ih =>
    obtain ⟨k, v⟩ := e
    by_cases hk : k = a
    · have : k ≠ b := fun hb => h (hb ▸ hk)
      simpa [Cells.erase, Cells.get, hk, Ne.symm h] using ih
    · by_cases hb : k = b
      · simp [Cells.erase, Cells.get, hb, h]
      · simpa [Cells.erase, Cells.get, hk, hb] using ih

/-- No entry is listed for the key. -/
def Cells.Free (m : Cells w) (a : Nat) : Prop := ∀ e ∈ m, e.1 ≠ a

theorem Cells.free_erase (m : Cells w) (a : Nat) : (m.erase a).Free a := by
  induction m with
  | nil => intro e he; cases he
  | cons e rest ih =>
    obtain ⟨k, v⟩ := e
    by_cases h : k = a
    · simpa [Cells.erase, h] using ih
    · intro e he
      simp only [Cells.erase, h, if_false, List.mem_cons] at he
      rcases he with rfl | he
      · exact h
      · exact ih e he

theorem Cells.get_insert_same {m : Cells w} {a : Nat} (x : BitVec w) (h : m.Free a) :
    (m.insert a x).get a = x := by
  induction m with
  | nil => simp [Cells.insert, Cells.get]
  | cons e rest ih =>
    obtain ⟨k, v⟩ := e
    have hk : k ≠ a := h (k, v) (List.mem_cons_self ..)
    have hr : Cells.Free rest a := fun e he => h e (List.mem_cons_of_mem _ he)
    by_cases hlt : a < k
    · simp [Cells.insert, Cells.get, hlt]
    · simpa [Cells.insert, Cells.get, hlt, hk] using ih hr

theorem Cells.get_insert_other (m : Cells w) {a b : Nat} (x : BitVec w) (h : b ≠ a) :
    (m.insert a x).get b = m.get b := by
  induction m with
  | nil => simp [Cells.insert, Cells.get, Ne.symm h]
  | cons e rest ih =>
    obtain ⟨k, v⟩ := e
    by_cases hlt : a < k
    · simp [Cells.insert, Cells.get, hlt, Ne.symm h]
    · by_cases hb : k = b
      · subst hb
        simp [Cells.insert, Cells.get, hlt]
      · simpa [Cells.insert, Cells.get, hlt, hb] using ih

/-- A read after a write of the same key gives the value written. -/
@[simp] theorem Cells.get_set_same (m : Cells w) (a : Nat) (x : BitVec w) : (m.set a x).get a = x := by
  unfold Cells.set
  split
  · next h => rw [Cells.get_erase_same, h]
  · exact Cells.get_insert_same x (Cells.free_erase m a)

/-- A write leaves every other key alone. -/
theorem Cells.get_set_other (m : Cells w) {a b : Nat} (x : BitVec w) (h : b ≠ a) :
    (m.set a x).get b = m.get b := by
  unfold Cells.set
  split
  · exact Cells.get_erase_other m h
  · rw [Cells.get_insert_other _ x h, Cells.get_erase_other m h]

/-! ## The canonical form -/

theorem Cells.wf_cons {k : Nat} {v : BitVec w} {rest : Cells w} :
    Cells.wf ((k, v) :: rest) = true ↔
      v ≠ Cells.unlisted w ∧ (∀ e ∈ rest, k < e.1) ∧ Cells.wf rest = true := by
  simp [Cells.wf, and_assoc]

theorem Cells.mem_erase {m : Cells w} {a : Nat} {e : Nat × BitVec w} (h : e ∈ m.erase a) : e ∈ m := by
  induction m with
  | nil => cases h
  | cons p rest ih =>
    obtain ⟨k, v⟩ := p
    by_cases hk : k = a
    · simp only [Cells.erase, hk, if_true] at h
      exact List.mem_cons_of_mem _ (ih h)
    · simp only [Cells.erase, hk, if_false, List.mem_cons] at h
      rcases h with rfl | h
      · exact List.mem_cons_self ..
      · exact List.mem_cons_of_mem _ (ih h)

theorem Cells.mem_insert {m : Cells w} {a : Nat} {x : BitVec w} {e : Nat × BitVec w}
    (h : e ∈ m.insert a x) : e = (a, x) ∨ e ∈ m := by
  induction m with
  | nil => simpa [Cells.insert] using h
  | cons p rest ih =>
    obtain ⟨k, v⟩ := p
    by_cases hlt : a < k
    · simpa [Cells.insert, hlt] using h
    · simp only [Cells.insert, hlt, if_false, List.mem_cons] at h
      rcases h with rfl | h
      · exact .inr (List.mem_cons_self ..)
      · exact (ih h).imp id (List.mem_cons_of_mem _)

theorem Cells.wf_erase {m : Cells w} (a : Nat) (h : Cells.wf m = true) : Cells.wf (m.erase a) = true := by
  induction m with
  | nil => rfl
  | cons p rest ih =>
    obtain ⟨k, v⟩ := p
    obtain ⟨hv, hk, hr⟩ := Cells.wf_cons.mp h
    by_cases ha : k = a
    · simpa [Cells.erase, ha] using ih hr
    · simp only [Cells.erase, ha, if_false]
      exact Cells.wf_cons.mpr ⟨hv, fun e he => hk e (Cells.mem_erase he), ih hr⟩

theorem Cells.wf_insert {m : Cells w} {a : Nat} {x : BitVec w} (hx : x ≠ Cells.unlisted w)
    (ha : m.Free a) (h : Cells.wf m = true) : Cells.wf (m.insert a x) = true := by
  induction m with
  | nil => simpa [Cells.insert, Cells.wf] using hx
  | cons p rest ih =>
    obtain ⟨k, v⟩ := p
    obtain ⟨hv, hk, hr⟩ := Cells.wf_cons.mp h
    have hka : k ≠ a := ha (k, v) (List.mem_cons_self ..)
    by_cases hlt : a < k
    · simp only [Cells.insert, hlt, if_true]
      refine Cells.wf_cons.mpr ⟨hx, ?_, h⟩
      intro e he
      rcases List.mem_cons.mp he with rfl | he
      · exact hlt
      · exact Nat.lt_trans hlt (hk e he)
    · simp only [Cells.insert, hlt, if_false]
      refine Cells.wf_cons.mpr ⟨hv, ?_, ih (fun e he => ha e (List.mem_cons_of_mem _ he)) hr⟩
      intro e he
      rcases Cells.mem_insert he with rfl | he
      · exact Nat.lt_of_le_of_ne (Nat.le_of_not_lt hlt) hka
      · exact hk e he

/-- A write keeps the canonical form. -/
theorem Cells.wf_set {m : Cells w} (a : Nat) (x : BitVec w) (h : Cells.wf m = true) :
    Cells.wf (m.set a x) = true := by
  unfold Cells.set
  split
  · exact Cells.wf_erase a h
  · next hx => exact Cells.wf_insert hx (Cells.free_erase m a) (Cells.wf_erase a h)

/-- A key below every listed one holds what an unlisted key holds. -/
theorem Cells.get_below {m : Cells w} {a : Nat} (h : ∀ e ∈ m, a < e.1) : m.get a = Cells.unlisted w := by
  induction m with
  | nil => rfl
  | cons p rest ih =>
    obtain ⟨k, v⟩ := p
    have hk : a < k := h (k, v) (List.mem_cons_self ..)
    have : k ≠ a := by omega
    simpa [Cells.get, this] using ih fun e he => h e (List.mem_cons_of_mem _ he)

/-! ## The same for bytes -/

@[simp] theorem Memory.read_write_same (m : Memory) (a : Nat) (v : Byte) : (m.write a v).read a = v :=
  Cells.get_set_same m a v

theorem Memory.read_write_other (m : Memory) {a b : Nat} (v : Byte) (h : b ≠ a) :
    (m.write a v).read b = m.read b := Cells.get_set_other m v h

theorem Memory.wf_write {m : Memory} (a : Nat) (v : Byte) (h : Memory.wf m = true) :
    Memory.wf (m.write a v) = true := Cells.wf_set a v h

theorem Memory.wf_nil : Memory.wf [] = true := rfl

end Sys2Proof.Machine
end

