-- ==== Sys2Proof/Laws/Devices.lean ====
section
/-! SUPPORT. What the timer and the PPU can do to the machine between instructions: the parts they leave,
how far their loops run, and the positions of the PPU they keep. -/

namespace Sys2Proof.Machine

/-! ## What the devices leave -/

/-- What `timer.advance` and `ppu.step` leave: everything but IF, the timer's counters, and where the PPU
is in its frame. -/
structure State.DeviceFrame (s t : State) : Prop where
  cpu : t.cpu = s.cpu
  cart : t.cart = s.cart
  mem : t.mem = s.mem
  params : t.params = s.params
  fault : t.fault = s.fault
  io : t.io = { s.io with ifl := t.io.ifl }
  timer : t.timer = { s.timer with
    divCounter := t.timer.divCounter, timaAcc := t.timer.timaAcc, tima := t.timer.tima }
  ppu : t.ppu = { s.ppu with
    ly := t.ppu.ly, mode := t.ppu.mode, modeclock := t.ppu.modeclock, coincidence := t.ppu.coincidence
    frameReady := t.ppu.frameReady, frame := t.ppu.frame }

theorem State.DeviceFrame.refl (s : State) : s.DeviceFrame s :=
  ⟨rfl, rfl, rfl, rfl, rfl, rfl, rfl, rfl⟩

theorem State.DeviceFrame.trans {s t u : State} (h : s.DeviceFrame t) (k : t.DeviceFrame u) :
    s.DeviceFrame u :=
  ⟨k.cpu.trans h.cpu, k.cart.trans h.cart, k.mem.trans h.mem, k.params.trans h.params,
    k.fault.trans h.fault, k.io.trans (by rw [h.io]), k.timer.trans (by rw [h.timer]),
    k.ppu.trans (by rw [h.ppu])⟩

theorem State.raise_deviceFrame (s : State) (i : Fin 8) : s.DeviceFrame (s.raise i) :=
  ⟨rfl, rfl, rfl, rfl, rfl, rfl, rfl, rfl⟩

theorem State.statInterrupt_deviceFrame (s : State) (i : Nat) : s.DeviceFrame (s.statInterrupt i) := by
  unfold State.statInterrupt
  split
  · exact State.raise_deviceFrame s 1
  · exact .refl s

/-! ## The timer -/

theorem Timer.threshold_pos (t : Timer) : 16 ≤ t.threshold := by
  unfold Timer.threshold
  split <;> decide

theorem Timer.threshold_le (t : Timer) : t.threshold ≤ 1024 := by
  unfold Timer.threshold
  split <;> decide

/-- A round of the loop leaves DIV, TMA, TAC and the accumulator. -/
theorem Timer.tick_leaves (t : Timer) :
    t.tick.1 = { t with tima := t.tick.1.tima } := by
  unfold Timer.tick
  split <;> rfl

/-- The loop leaves DIV, TMA and TAC. -/
theorem Timer.drain_leaves (n : Nat) (t : Timer) :
    (Timer.drain n t).1 = { t with
      timaAcc := (Timer.drain n t).1.timaAcc, tima := (Timer.drain n t).1.tima } := by
  induction n generalizing t with
  | zero => rfl
  | succ n ih =>
    simp only [Timer.drain]
    split
    · have h := ih (Timer.tick { t with timaAcc := t.timaAcc - t.threshold }).1
      rw [Timer.tick_leaves] at h
      rw [Timer.tick_leaves]
      exact h
    · rfl

/-- What one round of the loop is, and that it ends below the threshold. -/
theorem Timer.drain_below (n : Nat) (t : Timer) (h : t.timaAcc ≤ n) :
    (Timer.drain n t).1.timaAcc < t.threshold := by
  induction n generalizing t with
  | zero =>
    have := Timer.threshold_pos t
    simp only [Timer.drain]
    omega
  | succ n ih =>
    have hp := Timer.threshold_pos t
    simp only [Timer.drain]
    split
    · have hth : (Timer.tick { t with timaAcc := t.timaAcc - t.threshold }).1.threshold = t.threshold := by
        rw [Timer.tick_leaves]; rfl
      refine Nat.lt_of_lt_of_eq (ih _ ?_) hth
      rw [Timer.tick_leaves]
      show t.timaAcc - t.threshold ≤ n
      omega
    · show t.timaAcc < t.threshold
      omega

/-- More rounds than the accumulator holds do nothing more. -/
theorem Timer.drain_fuel (n : Nat) (t : Timer) (h : t.timaAcc ≤ n) :
    Timer.drain n t = Timer.drain t.timaAcc t := by
  induction n using Nat.strongRecOn generalizing t with
  | ind n ih =>
    have hp := Timer.threshold_pos t
    cases n with
    | zero => rw [Nat.le_zero.mp h]
    | succ n =>
      by_cases hle : t.threshold ≤ t.timaAcc
      · obtain ⟨m, hm⟩ : ∃ m, t.timaAcc = m + 1 := ⟨t.timaAcc - 1, by omega⟩
        have hacc : (Timer.tick { t with timaAcc := t.timaAcc - t.threshold }).1.timaAcc
            = t.timaAcc - t.threshold := by rw [Timer.tick_leaves]
        have h1 := ih n (Nat.lt_succ_self n)
          (Timer.tick { t with timaAcc := t.timaAcc - t.threshold }).1 (by omega)
        have h2 := ih m (by omega)
          (Timer.tick { t with timaAcc := t.timaAcc - t.threshold }).1 (by omega)
        conv_rhs => rw [hm]
        simp only [Timer.drain, if_pos hle, h1, h2]
      · cases hacc : t.timaAcc with
        | zero => simp only [Timer.drain, if_neg hle]
        | succ m => simp only [Timer.drain, if_neg hle]

/-- The timer's part of a step. -/
theorem State.timerAdvance_deviceFrame (s : State) (n : Nat) : s.DeviceFrame (s.timerAdvance n) := by
  have hadv : (s.timer.advance n).1 = { s.timer with
      divCounter := (s.timer.advance n).1.divCounter, timaAcc := (s.timer.advance n).1.timaAcc
      tima := (s.timer.advance n).1.tima } := by
    unfold Timer.advance
    simp only
    split
    · have h := Timer.drain_leaves (s.timer.timaAcc + n) { s.timer with
        divCounter := s.timer.divCounter + BitVec.ofNat 16 n, timaAcc := s.timer.timaAcc + n }
      rw [h]
    · rfl
  have h : s.DeviceFrame { s with timer := (s.timer.advance n).1 } :=
    ⟨rfl, rfl, rfl, rfl, rfl, rfl, hadv, rfl⟩
  unfold State.timerAdvance
  simp only
  split
  · exact h.trans (State.raise_deviceFrame _ 2)
  · exact h

/-- The PPU is not the timer's. -/
theorem State.timerAdvance_ppu (s : State) (n : Nat) : (s.timerAdvance n).ppu = s.ppu := by
  unfold State.timerAdvance
  simp only
  split <;> rfl

/-- After an advance the timer is below its bounds. -/
theorem Timer.advance_below {t : Timer} (n : Nat) (h : t.timaAcc < 1024) : (t.advance n).1.Below := by
  unfold Timer.advance
  simp only
  split
  · have hl := Timer.drain_leaves (t.timaAcc + n)
      { t with divCounter := t.divCounter + BitVec.ofNat 16 n, timaAcc := t.timaAcc + n }
    have hb := Timer.drain_below (t.timaAcc + n)
      { t with divCounter := t.divCounter + BitVec.ofNat 16 n, timaAcc := t.timaAcc + n } (Nat.le_refl _)
    constructor
    · intro _
      rw [hl]
      exact hb
    · exact Nat.lt_of_lt_of_le hb (Timer.threshold_le _)
  · next he => exact ⟨fun h' => absurd h' he, h⟩

/-! ## The PPU -/

theorem PpuMode.length_pos (m : PpuMode) : 80 ≤ m.length := by
  cases m <;> decide

theorem State.renderLine_deviceFrame (s : State) (ly : Nat) : s.DeviceFrame (s.renderLine ly) :=
  ⟨rfl, rfl, rfl, rfl, rfl, rfl, rfl, rfl⟩

theorem State.enterMode_deviceFrame (s : State) (m : PpuMode) : s.DeviceFrame (s.enterMode m) :=
  ⟨rfl, rfl, rfl, rfl, rfl, rfl, rfl, rfl⟩

theorem State.takeClock_deviceFrame (s : State) (n : Nat) : s.DeviceFrame (s.takeClock n) :=
  ⟨rfl, rfl, rfl, rfl, rfl, rfl, rfl, rfl⟩

theorem State.setLy_deviceFrame (s : State) (v : Byte) : s.DeviceFrame (s.setLy v) := by
  have h : s.DeviceFrame { s with ppu := { s.ppu with ly := v, coincidence := v == s.ppu.lyc } } :=
    ⟨rfl, rfl, rfl, rfl, rfl, rfl, rfl, rfl⟩
  unfold State.setLy
  simp only
  split
  · exact h.trans (State.statInterrupt_deviceFrame _ 6)
  · exact h

theorem State.enterVBlank_deviceFrame (s : State) : s.DeviceFrame s.enterVBlank :=
  ((s.enterMode_deviceFrame .vBlank).trans (State.raise_deviceFrame _ 0)).trans <|
    State.DeviceFrame.trans (t := { (s.enterMode .vBlank).raise 0 with
      ppu := { ((s.enterMode .vBlank).raise 0).ppu with frameReady := true } })
      ⟨rfl, rfl, rfl, rfl, rfl, rfl, rfl, rfl⟩ (State.statInterrupt_deviceFrame _ 4)

theorem State.endMode_deviceFrame (s : State) : s.DeviceFrame s.endMode := by
  unfold State.endMode
  split
  · exact s.enterMode_deviceFrame _
  · exact ((s.renderLine_deviceFrame _).trans (State.enterMode_deviceFrame _ _)).trans
      (State.statInterrupt_deviceFrame _ 3)
  · simp only
    split
    · exact (s.setLy_deviceFrame _).trans (State.enterVBlank_deviceFrame _)
    · exact ((s.setLy_deviceFrame _).trans (State.enterMode_deviceFrame _ _)).trans
        (State.statInterrupt_deviceFrame _ 5)
  · split
    · exact ((s.setLy_deviceFrame _).trans (State.enterMode_deviceFrame _ _)).trans
        (State.statInterrupt_deviceFrame _ 5)
    · exact s.setLy_deviceFrame _

theorem State.ppuLoop_deviceFrame (n : Nat) (s : State) : s.DeviceFrame (State.ppuLoop n s) := by
  induction n generalizing s with
  | zero => exact .refl s
  | succ n ih =>
    simp only [State.ppuLoop]
    split
    · exact ((s.takeClock_deviceFrame _).trans (State.endMode_deviceFrame _)).trans (ih _)
    · exact .refl s

theorem State.ppuStep_deviceFrame (s : State) (n : Nat) : s.DeviceFrame (s.ppuStep n) := by
  have h : s.DeviceFrame { s with ppu := { s.ppu with modeclock := s.ppu.modeclock + n } } :=
    ⟨rfl, rfl, rfl, rfl, rfl, rfl, rfl, rfl⟩
  unfold State.ppuStep
  split
  · exact h.trans (State.ppuLoop_deviceFrame _ _)
  · exact .refl s

/-- What the devices of a step leave. -/
theorem State.devices_deviceFrame (s : State) : s.DeviceFrame s.devices :=
  (s.timerAdvance_deviceFrame _).trans (State.ppuStep_deviceFrame _ _)

/-- The timer is not the PPU's. -/
theorem State.statInterrupt_timer (s : State) (i : Nat) : (s.statInterrupt i).timer = s.timer := by
  unfold State.statInterrupt
  split <;> rfl

theorem State.setLy_timer (s : State) (v : Byte) : (s.setLy v).timer = s.timer := by
  unfold State.setLy
  simp only
  split
  · exact State.statInterrupt_timer _ 6
  · rfl

theorem State.endMode_timer (s : State) : s.endMode.timer = s.timer := by
  unfold State.endMode
  split
  · rfl
  · exact State.statInterrupt_timer _ 3
  · simp only
    split
    · exact (State.statInterrupt_timer _ 4).trans (s.setLy_timer _)
    · exact (State.statInterrupt_timer _ 5).trans (s.setLy_timer _)
  · split
    · exact (State.statInterrupt_timer _ 5).trans (s.setLy_timer _)
    · exact s.setLy_timer _

theorem State.ppuLoop_timer (n : Nat) (s : State) : (State.ppuLoop n s).timer = s.timer := by
  induction n generalizing s with
  | zero => rfl
  | succ n ih =>
    simp only [State.ppuLoop]
    split
    · exact (ih _).trans (State.endMode_timer _)
    · rfl

theorem State.ppuStep_timer (s : State) (n : Nat) : (s.ppuStep n).timer = s.timer := by
  unfold State.ppuStep
  split
  · exact State.ppuLoop_timer _ _
  · rfl

/-! ### Where a mode ends -/

/-- A STAT source moves nothing. -/
theorem State.statInterrupt_ppu (s : State) (i : Nat) : (s.statInterrupt i).ppu = s.ppu := by
  unfold State.statInterrupt
  split <;> rfl

theorem State.setLy_ppu (s : State) (v : Byte) :
    (s.setLy v).ppu = { s.ppu with ly := v, coincidence := v == s.ppu.lyc } := by
  unfold State.setLy
  simp only
  split
  · exact State.statInterrupt_ppu _ 6
  · rfl

theorem State.enterVBlank_ppu (s : State) :
    s.enterVBlank.ppu = { s.ppu with mode := .vBlank, frameReady := true } :=
  State.statInterrupt_ppu _ 4

/-- The end of each mode, as the PPU's own part. -/
theorem State.endMode_ppu (s : State) :
    s.endMode.ppu = match s.ppu.mode with
      | .oamScan => { s.ppu with mode := .pixelTransfer }
      | .pixelTransfer => { s.ppu with
          mode := .hBlank
          frame := s.drawColumns s.ppu.ly.toNat Config.screenWidth s.ppu.frame }
      | .hBlank =>
        if s.ppu.ly + 1 = 144 then { s.ppu with
            ly := s.ppu.ly + 1, coincidence := s.ppu.ly + 1 == s.ppu.lyc
            mode := .vBlank, frameReady := true }
        else { s.ppu with
            ly := s.ppu.ly + 1, coincidence := s.ppu.ly + 1 == s.ppu.lyc, mode := .oamScan }
      | .vBlank =>
        if s.ppu.ly = 153 then { s.ppu with
            ly := 0, coincidence := 0 == s.ppu.lyc, mode := .oamScan }
        else { s.ppu with ly := s.ppu.ly + 1, coincidence := s.ppu.ly + 1 == s.ppu.lyc } := by
  unfold State.endMode
  split
  · next hm => simp only [hm, State.enterMode]
  · next hm => simp only [hm, State.statInterrupt_ppu, State.enterMode, State.renderLine]
  · next hm =>
    simp only [hm, State.setLy_ppu]
    split
    · rw [State.enterVBlank_ppu, State.setLy_ppu]
    · simp only [State.statInterrupt_ppu, State.enterMode, State.setLy_ppu]
  · next hm =>
    simp only [hm]
    split
    · simp only [State.statInterrupt_ppu, State.enterMode, State.setLy_ppu]
    · simp only [State.setLy_ppu, hm]

theorem State.endMode_modeclock (s : State) : s.endMode.ppu.modeclock = s.ppu.modeclock := by
  rw [State.endMode_ppu]
  split
  · rfl
  · rfl
  · split <;> rfl
  · split <;> rfl

/-- The loop ends inside a mode. -/
theorem State.ppuLoop_clock (n : Nat) (s : State) (h : s.ppu.modeclock ≤ n) :
    (State.ppuLoop n s).ppu.modeclock < (State.ppuLoop n s).ppu.mode.length := by
  induction n generalizing s with
  | zero =>
    have := s.ppu.mode.length_pos
    simp only [State.ppuLoop]
    omega
  | succ n ih =>
    have := s.ppu.mode.length_pos
    simp only [State.ppuLoop]
    split
    · refine ih _ ?_
      rw [State.endMode_modeclock]
      show s.ppu.modeclock - s.ppu.mode.length ≤ n
      omega
    · omega

/-- More rounds than the clock holds do nothing more. -/
theorem State.ppuLoop_fuel (n : Nat) (s : State) (h : s.ppu.modeclock ≤ n) :
    State.ppuLoop n s = State.ppuLoop s.ppu.modeclock s := by
  induction n using Nat.strongRecOn generalizing s with
  | ind n ih =>
    have hp := s.ppu.mode.length_pos
    cases n with
    | zero => rw [Nat.le_zero.mp h]
    | succ n =>
      by_cases hle : s.ppu.mode.length ≤ s.ppu.modeclock
      · obtain ⟨m, hm⟩ : ∃ m, s.ppu.modeclock = m + 1 := ⟨s.ppu.modeclock - 1, by omega⟩
        have hc : (s.takeClock s.ppu.mode.length).endMode.ppu.modeclock
            = s.ppu.modeclock - s.ppu.mode.length := State.endMode_modeclock _
        have h1 := ih n (Nat.lt_succ_self n) (s.takeClock s.ppu.mode.length).endMode (by omega)
        have h2 := ih m (by omega) (s.takeClock s.ppu.mode.length).endMode (by omega)
        conv_rhs => rw [hm]
        simp only [State.ppuLoop, if_pos hle, h1, h2]
      · cases hc : s.ppu.modeclock with
        | zero => simp only [State.ppuLoop, if_neg hle]
        | succ m => simp only [State.ppuLoop, if_neg hle]

/-- A position of the PPU but for its clock, which the loop still has to bring down. -/
structure Ppu.OnLine (p : Ppu) : Prop where
  line : p.ly.toNat ≤ 153
  vBlank : p.mode = .vBlank ↔ 144 ≤ p.ly.toNat
  lcdOn : p.lcdOn = true

theorem ly_succ {v : Byte} (h : v.toNat ≤ 153) : (v + 1).toNat = v.toNat + 1 := by
  rw [BitVec.toNat_add]
  show (v.toNat + 1) % 256 = v.toNat + 1
  omega

/-- The end of a mode keeps the PPU on a line of the frame. -/
theorem State.endMode_onLine {s : State} (h : s.ppu.OnLine) : s.endMode.ppu.OnLine := by
  obtain ⟨h1, h2, h3⟩ := h
  have hs := ly_succ h1
  rw [State.endMode_ppu]
  split
  · next hm => exact ⟨h1, by simp [← h2, hm], h3⟩
  · next hm => exact ⟨h1, by simp [← h2, hm], h3⟩
  · next hm =>
    have hlt : ¬144 ≤ s.ppu.ly.toNat := fun hc => by simp [h2.mpr hc] at hm
    split
    · next he =>
      exact ⟨by show (s.ppu.ly + 1).toNat ≤ 153; omega,
        by show PpuMode.vBlank = .vBlank ↔ 144 ≤ (s.ppu.ly + 1).toNat
           rw [he]
           decide, h3⟩
    · next he =>
      have hne : (s.ppu.ly + 1).toNat ≠ 144 := fun hc => he (BitVec.eq_of_toNat_eq hc)
      exact ⟨by show (s.ppu.ly + 1).toNat ≤ 153; omega,
        by show PpuMode.oamScan = .vBlank ↔ 144 ≤ (s.ppu.ly + 1).toNat
           rw [hs] at hne ⊢
           simp; omega, h3⟩
  · next hm =>
    have hge := h2.mp hm
    split
    · exact ⟨by simp, by simp, h3⟩
    · next he =>
      have hne : s.ppu.ly.toNat ≠ 153 := fun hc => he (BitVec.eq_of_toNat_eq hc)
      exact ⟨by show (s.ppu.ly + 1).toNat ≤ 153; omega,
        by show s.ppu.mode = .vBlank ↔ 144 ≤ (s.ppu.ly + 1).toNat
           rw [hs]
           simp only [hm, true_iff]; omega, h3⟩

theorem State.ppuLoop_onLine (n : Nat) {s : State} (h : s.ppu.OnLine) :
    (State.ppuLoop n s).ppu.OnLine := by
  induction n generalizing s with
  | zero => exact h
  | succ n ih =>
    simp only [State.ppuLoop]
    split
    · exact ih (State.endMode_onLine (s := s.takeClock _) ⟨h.line, h.vBlank, h.lcdOn⟩)
    · exact h

/-- `ppu.step` keeps the legal positions. -/
theorem State.ppuStep_timed {s : State} (n : Nat) (h : s.ppu.Timed) : (s.ppuStep n).ppu.Timed := by
  unfold State.ppuStep
  split
  · next hon =>
    have ho : Ppu.OnLine { s.ppu with modeclock := s.ppu.modeclock + n } := ⟨h.line, h.vBlank, hon⟩
    have hl := State.ppuLoop_onLine (s.ppu.modeclock + n)
      (s := { s with ppu := { s.ppu with modeclock := s.ppu.modeclock + n } }) ho
    exact ⟨State.ppuLoop_clock _ _ (Nat.le_refl _), hl.line, hl.vBlank,
      fun hoff => by rw [hl.lcdOn] at hoff; cases hoff⟩
  · exact h

/-! ### The framebuffer -/

theorem State.drawColumns_wf (s : State) (ly n : Nat) {f : Cells 2} (h : Cells.wf f = true) :
    Cells.wf (s.drawColumns ly n f) = true := by
  induction n with
  | zero => exact h
  | succ n ih => exact Cells.wf_set _ _ ih

theorem State.endMode_frame_wf {s : State} (h : Cells.wf s.ppu.frame = true) :
    Cells.wf s.endMode.ppu.frame = true := by
  rw [State.endMode_ppu]
  split
  · exact h
  · exact State.drawColumns_wf s _ _ h
  · split <;> exact h
  · split <;> exact h

theorem State.ppuLoop_frame_wf (n : Nat) {s : State} (h : Cells.wf s.ppu.frame = true) :
    Cells.wf (State.ppuLoop n s).ppu.frame = true := by
  induction n generalizing s with
  | zero => exact h
  | succ n ih =>
    simp only [State.ppuLoop]
    split
    · exact ih (State.endMode_frame_wf (s := s.takeClock _) h)
    · exact h

theorem State.ppuStep_frame_wf {s : State} (n : Nat) (h : Cells.wf s.ppu.frame = true) :
    Cells.wf (s.ppuStep n).ppu.frame = true := by
  unfold State.ppuStep
  split
  · exact State.ppuLoop_frame_wf _ h
  · exact h

end Sys2Proof.Machine
end

