-- ==== Sys2Proof/Laws/State.lean ====
section
/-! SUPPORT. One lemma for each field and each update: what an update of the state changes and what it
leaves, so that no later proof unfolds a record update. -/

namespace Sys2Proof.Machine

/-! ## setReg -/

section
variable (s : State) (r : Reg8) (v : Byte)

@[simp] theorem State.setReg_io : (s.setReg r v).io = s.io := rfl
@[simp] theorem State.setReg_timer : (s.setReg r v).timer = s.timer := rfl
@[simp] theorem State.setReg_ppu : (s.setReg r v).ppu = s.ppu := rfl
@[simp] theorem State.setReg_cart : (s.setReg r v).cart = s.cart := rfl
@[simp] theorem State.setReg_mem : (s.setReg r v).mem = s.mem := rfl
@[simp] theorem State.setReg_params : (s.setReg r v).params = s.params := rfl
@[simp] theorem State.setReg_fault : (s.setReg r v).fault = s.fault := rfl
@[simp] theorem State.setReg_cpu_f : (s.setReg r v).cpu.f = s.cpu.f := by cases r <;> rfl
@[simp] theorem State.setReg_cpu_sp : (s.setReg r v).cpu.sp = s.cpu.sp := by cases r <;> rfl
@[simp] theorem State.setReg_cpu_pc : (s.setReg r v).cpu.pc = s.cpu.pc := by cases r <;> rfl
@[simp] theorem State.setReg_cpu_ime : (s.setReg r v).cpu.ime = s.cpu.ime := by cases r <;> rfl
@[simp] theorem State.setReg_cpu_imeScheduled : (s.setReg r v).cpu.imeScheduled = s.cpu.imeScheduled := by cases r <;> rfl
@[simp] theorem State.setReg_cpu_halted : (s.setReg r v).cpu.halted = s.cpu.halted := by cases r <;> rfl
@[simp] theorem State.setReg_cpu_haltBug : (s.setReg r v).cpu.haltBug = s.cpu.haltBug := by cases r <;> rfl
@[simp] theorem State.setReg_cpu_opPc : (s.setReg r v).cpu.opPc = s.cpu.opPc := by cases r <;> rfl
@[simp] theorem State.setReg_cpu_cycles : (s.setReg r v).cpu.cycles = s.cpu.cycles := by cases r <;> rfl
@[simp] theorem State.setReg_flagZ : (s.setReg r v).flagZ = s.flagZ := by cases r <;> rfl
@[simp] theorem State.setReg_flagN : (s.setReg r v).flagN = s.flagN := by cases r <;> rfl
@[simp] theorem State.setReg_flagH : (s.setReg r v).flagH = s.flagH := by cases r <;> rfl
@[simp] theorem State.setReg_flagC : (s.setReg r v).flagC = s.flagC := by cases r <;> rfl
@[simp] theorem State.setReg_pending : (s.setReg r v).pending = s.pending := by cases r <;> rfl
@[simp] theorem State.setReg_ioRead (i : Nat) : (s.setReg r v).ioRead i = s.ioRead i := by cases r <;> rfl

end

/-! ## setF -/

section
variable (s : State) (v : Byte)

@[simp] theorem State.setF_io : (s.setF v).io = s.io := rfl
@[simp] theorem State.setF_timer : (s.setF v).timer = s.timer := rfl
@[simp] theorem State.setF_ppu : (s.setF v).ppu = s.ppu := rfl
@[simp] theorem State.setF_cart : (s.setF v).cart = s.cart := rfl
@[simp] theorem State.setF_mem : (s.setF v).mem = s.mem := rfl
@[simp] theorem State.setF_params : (s.setF v).params = s.params := rfl
@[simp] theorem State.setF_fault : (s.setF v).fault = s.fault := rfl
@[simp] theorem State.setF_cpu_a : (s.setF v).cpu.a = s.cpu.a := rfl
@[simp] theorem State.setF_cpu_b : (s.setF v).cpu.b = s.cpu.b := rfl
@[simp] theorem State.setF_cpu_c : (s.setF v).cpu.c = s.cpu.c := rfl
@[simp] theorem State.setF_cpu_d : (s.setF v).cpu.d = s.cpu.d := rfl
@[simp] theorem State.setF_cpu_e : (s.setF v).cpu.e = s.cpu.e := rfl
@[simp] theorem State.setF_cpu_h : (s.setF v).cpu.h = s.cpu.h := rfl
@[simp] theorem State.setF_cpu_l : (s.setF v).cpu.l = s.cpu.l := rfl
@[simp] theorem State.setF_cpu_sp : (s.setF v).cpu.sp = s.cpu.sp := rfl
@[simp] theorem State.setF_cpu_pc : (s.setF v).cpu.pc = s.cpu.pc := rfl
@[simp] theorem State.setF_cpu_ime : (s.setF v).cpu.ime = s.cpu.ime := rfl
@[simp] theorem State.setF_cpu_imeScheduled : (s.setF v).cpu.imeScheduled = s.cpu.imeScheduled := rfl
@[simp] theorem State.setF_cpu_halted : (s.setF v).cpu.halted = s.cpu.halted := rfl
@[simp] theorem State.setF_cpu_haltBug : (s.setF v).cpu.haltBug = s.cpu.haltBug := rfl
@[simp] theorem State.setF_cpu_opPc : (s.setF v).cpu.opPc = s.cpu.opPc := rfl
@[simp] theorem State.setF_cpu_cycles : (s.setF v).cpu.cycles = s.cpu.cycles := rfl
@[simp] theorem State.setF_cpu_f_new : (s.setF v).cpu.f = v &&& 0xF0 := rfl
@[simp] theorem State.setF_reg (q : Reg8) : (s.setF v).reg q = s.reg q := by cases q <;> rfl
@[simp] theorem State.setF_pair (q : Pair) : (s.setF v).pair q = s.pair q := by cases q <;> rfl
@[simp] theorem State.setF_hl : (s.setF v).hl = s.hl := rfl
@[simp] theorem State.setF_pending : (s.setF v).pending = s.pending := rfl
@[simp] theorem State.setF_ioRead (i : Nat) : (s.setF v).ioRead i = s.ioRead i := rfl

end

/-! ## setSp -/

section
variable (s : State) (v : Word)

@[simp] theorem State.setSp_io : (s.setSp v).io = s.io := rfl
@[simp] theorem State.setSp_timer : (s.setSp v).timer = s.timer := rfl
@[simp] theorem State.setSp_ppu : (s.setSp v).ppu = s.ppu := rfl
@[simp] theorem State.setSp_cart : (s.setSp v).cart = s.cart := rfl
@[simp] theorem State.setSp_mem : (s.setSp v).mem = s.mem := rfl
@[simp] theorem State.setSp_params : (s.setSp v).params = s.params := rfl
@[simp] theorem State.setSp_fault : (s.setSp v).fault = s.fault := rfl
@[simp] theorem State.setSp_cpu_a : (s.setSp v).cpu.a = s.cpu.a := rfl
@[simp] theorem State.setSp_cpu_f : (s.setSp v).cpu.f = s.cpu.f := rfl
@[simp] theorem State.setSp_cpu_b : (s.setSp v).cpu.b = s.cpu.b := rfl
@[simp] theorem State.setSp_cpu_c : (s.setSp v).cpu.c = s.cpu.c := rfl
@[simp] theorem State.setSp_cpu_d : (s.setSp v).cpu.d = s.cpu.d := rfl
@[simp] theorem State.setSp_cpu_e : (s.setSp v).cpu.e = s.cpu.e := rfl
@[simp] theorem State.setSp_cpu_h : (s.setSp v).cpu.h = s.cpu.h := rfl
@[simp] theorem State.setSp_cpu_l : (s.setSp v).cpu.l = s.cpu.l := rfl
@[simp] theorem State.setSp_cpu_pc : (s.setSp v).cpu.pc = s.cpu.pc := rfl
@[simp] theorem State.setSp_cpu_ime : (s.setSp v).cpu.ime = s.cpu.ime := rfl
@[simp] theorem State.setSp_cpu_imeScheduled : (s.setSp v).cpu.imeScheduled = s.cpu.imeScheduled := rfl
@[simp] theorem State.setSp_cpu_halted : (s.setSp v).cpu.halted = s.cpu.halted := rfl
@[simp] theorem State.setSp_cpu_haltBug : (s.setSp v).cpu.haltBug = s.cpu.haltBug := rfl
@[simp] theorem State.setSp_cpu_opPc : (s.setSp v).cpu.opPc = s.cpu.opPc := rfl
@[simp] theorem State.setSp_cpu_cycles : (s.setSp v).cpu.cycles = s.cpu.cycles := rfl
@[simp] theorem State.setSp_cpu_sp_new : (s.setSp v).cpu.sp = v := rfl
@[simp] theorem State.setSp_reg (q : Reg8) : (s.setSp v).reg q = s.reg q := by cases q <;> rfl
@[simp] theorem State.setSp_hl : (s.setSp v).hl = s.hl := rfl
@[simp] theorem State.setSp_flagZ : (s.setSp v).flagZ = s.flagZ := rfl
@[simp] theorem State.setSp_flagN : (s.setSp v).flagN = s.flagN := rfl
@[simp] theorem State.setSp_flagH : (s.setSp v).flagH = s.flagH := rfl
@[simp] theorem State.setSp_flagC : (s.setSp v).flagC = s.flagC := rfl
@[simp] theorem State.setSp_pending : (s.setSp v).pending = s.pending := rfl
@[simp] theorem State.setSp_ioRead (i : Nat) : (s.setSp v).ioRead i = s.ioRead i := rfl

end

/-! ## setPc -/

section
variable (s : State) (v : Word)

@[simp] theorem State.setPc_io : (s.setPc v).io = s.io := rfl
@[simp] theorem State.setPc_timer : (s.setPc v).timer = s.timer := rfl
@[simp] theorem State.setPc_ppu : (s.setPc v).ppu = s.ppu := rfl
@[simp] theorem State.setPc_cart : (s.setPc v).cart = s.cart := rfl
@[simp] theorem State.setPc_mem : (s.setPc v).mem = s.mem := rfl
@[simp] theorem State.setPc_params : (s.setPc v).params = s.params := rfl
@[simp] theorem State.setPc_fault : (s.setPc v).fault = s.fault := rfl
@[simp] theorem State.setPc_cpu_a : (s.setPc v).cpu.a = s.cpu.a := rfl
@[simp] theorem State.setPc_cpu_f : (s.setPc v).cpu.f = s.cpu.f := rfl
@[simp] theorem State.setPc_cpu_b : (s.setPc v).cpu.b = s.cpu.b := rfl
@[simp] theorem State.setPc_cpu_c : (s.setPc v).cpu.c = s.cpu.c := rfl
@[simp] theorem State.setPc_cpu_d : (s.setPc v).cpu.d = s.cpu.d := rfl
@[simp] theorem State.setPc_cpu_e : (s.setPc v).cpu.e = s.cpu.e := rfl
@[simp] theorem State.setPc_cpu_h : (s.setPc v).cpu.h = s.cpu.h := rfl
@[simp] theorem State.setPc_cpu_l : (s.setPc v).cpu.l = s.cpu.l := rfl
@[simp] theorem State.setPc_cpu_sp : (s.setPc v).cpu.sp = s.cpu.sp := rfl
@[simp] theorem State.setPc_cpu_ime : (s.setPc v).cpu.ime = s.cpu.ime := rfl
@[simp] theorem State.setPc_cpu_imeScheduled : (s.setPc v).cpu.imeScheduled = s.cpu.imeScheduled := rfl
@[simp] theorem State.setPc_cpu_halted : (s.setPc v).cpu.halted = s.cpu.halted := rfl
@[simp] theorem State.setPc_cpu_haltBug : (s.setPc v).cpu.haltBug = s.cpu.haltBug := rfl
@[simp] theorem State.setPc_cpu_opPc : (s.setPc v).cpu.opPc = s.cpu.opPc := rfl
@[simp] theorem State.setPc_cpu_cycles : (s.setPc v).cpu.cycles = s.cpu.cycles := rfl
@[simp] theorem State.setPc_cpu_pc_new : (s.setPc v).cpu.pc = v := rfl
@[simp] theorem State.setPc_reg (q : Reg8) : (s.setPc v).reg q = s.reg q := by cases q <;> rfl
@[simp] theorem State.setPc_pair (q : Pair) : (s.setPc v).pair q = s.pair q := by cases q <;> rfl
@[simp] theorem State.setPc_hl : (s.setPc v).hl = s.hl := rfl
@[simp] theorem State.setPc_flagZ : (s.setPc v).flagZ = s.flagZ := rfl
@[simp] theorem State.setPc_flagN : (s.setPc v).flagN = s.flagN := rfl
@[simp] theorem State.setPc_flagH : (s.setPc v).flagH = s.flagH := rfl
@[simp] theorem State.setPc_flagC : (s.setPc v).flagC = s.flagC := rfl
@[simp] theorem State.setPc_pending : (s.setPc v).pending = s.pending := rfl
@[simp] theorem State.setPc_ioRead (i : Nat) : (s.setPc v).ioRead i = s.ioRead i := rfl

end

/-! ## setIme -/

section
variable (s : State) (v w : Bool)

@[simp] theorem State.setIme_io : (s.setIme v w).io = s.io := rfl
@[simp] theorem State.setIme_timer : (s.setIme v w).timer = s.timer := rfl
@[simp] theorem State.setIme_ppu : (s.setIme v w).ppu = s.ppu := rfl
@[simp] theorem State.setIme_cart : (s.setIme v w).cart = s.cart := rfl
@[simp] theorem State.setIme_mem : (s.setIme v w).mem = s.mem := rfl
@[simp] theorem State.setIme_params : (s.setIme v w).params = s.params := rfl
@[simp] theorem State.setIme_fault : (s.setIme v w).fault = s.fault := rfl
@[simp] theorem State.setIme_cpu_a : (s.setIme v w).cpu.a = s.cpu.a := rfl
@[simp] theorem State.setIme_cpu_f : (s.setIme v w).cpu.f = s.cpu.f := rfl
@[simp] theorem State.setIme_cpu_b : (s.setIme v w).cpu.b = s.cpu.b := rfl
@[simp] theorem State.setIme_cpu_c : (s.setIme v w).cpu.c = s.cpu.c := rfl
@[simp] theorem State.setIme_cpu_d : (s.setIme v w).cpu.d = s.cpu.d := rfl
@[simp] theorem State.setIme_cpu_e : (s.setIme v w).cpu.e = s.cpu.e := rfl
@[simp] theorem State.setIme_cpu_h : (s.setIme v w).cpu.h = s.cpu.h := rfl
@[simp] theorem State.setIme_cpu_l : (s.setIme v w).cpu.l = s.cpu.l := rfl
@[simp] theorem State.setIme_cpu_sp : (s.setIme v w).cpu.sp = s.cpu.sp := rfl
@[simp] theorem State.setIme_cpu_pc : (s.setIme v w).cpu.pc = s.cpu.pc := rfl
@[simp] theorem State.setIme_cpu_halted : (s.setIme v w).cpu.halted = s.cpu.halted := rfl
@[simp] theorem State.setIme_cpu_haltBug : (s.setIme v w).cpu.haltBug = s.cpu.haltBug := rfl
@[simp] theorem State.setIme_cpu_opPc : (s.setIme v w).cpu.opPc = s.cpu.opPc := rfl
@[simp] theorem State.setIme_cpu_cycles : (s.setIme v w).cpu.cycles = s.cpu.cycles := rfl
@[simp] theorem State.setIme_cpu_ime_new : (s.setIme v w).cpu.ime = v := rfl
@[simp] theorem State.setIme_cpu_imeScheduled_new : (s.setIme v w).cpu.imeScheduled = w := rfl
@[simp] theorem State.setIme_reg (q : Reg8) : (s.setIme v w).reg q = s.reg q := by cases q <;> rfl
@[simp] theorem State.setIme_pair (q : Pair) : (s.setIme v w).pair q = s.pair q := by cases q <;> rfl
@[simp] theorem State.setIme_hl : (s.setIme v w).hl = s.hl := rfl
@[simp] theorem State.setIme_flagZ : (s.setIme v w).flagZ = s.flagZ := rfl
@[simp] theorem State.setIme_flagN : (s.setIme v w).flagN = s.flagN := rfl
@[simp] theorem State.setIme_flagH : (s.setIme v w).flagH = s.flagH := rfl
@[simp] theorem State.setIme_flagC : (s.setIme v w).flagC = s.flagC := rfl
@[simp] theorem State.setIme_pending : (s.setIme v w).pending = s.pending := rfl
@[simp] theorem State.setIme_ioRead (i : Nat) : (s.setIme v w).ioRead i = s.ioRead i := rfl

end

/-! ## setHalted -/

section
variable (s : State) (v : Bool)

@[simp] theorem State.setHalted_io : (s.setHalted v).io = s.io := rfl
@[simp] theorem State.setHalted_timer : (s.setHalted v).timer = s.timer := rfl
@[simp] theorem State.setHalted_ppu : (s.setHalted v).ppu = s.ppu := rfl
@[simp] theorem State.setHalted_cart : (s.setHalted v).cart = s.cart := rfl
@[simp] theorem State.setHalted_mem : (s.setHalted v).mem = s.mem := rfl
@[simp] theorem State.setHalted_params : (s.setHalted v).params = s.params := rfl
@[simp] theorem State.setHalted_fault : (s.setHalted v).fault = s.fault := rfl
@[simp] theorem State.setHalted_cpu_a : (s.setHalted v).cpu.a = s.cpu.a := rfl
@[simp] theorem State.setHalted_cpu_f : (s.setHalted v).cpu.f = s.cpu.f := rfl
@[simp] theorem State.setHalted_cpu_b : (s.setHalted v).cpu.b = s.cpu.b := rfl
@[simp] theorem State.setHalted_cpu_c : (s.setHalted v).cpu.c = s.cpu.c := rfl
@[simp] theorem State.setHalted_cpu_d : (s.setHalted v).cpu.d = s.cpu.d := rfl
@[simp] theorem State.setHalted_cpu_e : (s.setHalted v).cpu.e = s.cpu.e := rfl
@[simp] theorem State.setHalted_cpu_h : (s.setHalted v).cpu.h = s.cpu.h := rfl
@[simp] theorem State.setHalted_cpu_l : (s.setHalted v).cpu.l = s.cpu.l := rfl
@[simp] theorem State.setHalted_cpu_sp : (s.setHalted v).cpu.sp = s.cpu.sp := rfl
@[simp] theorem State.setHalted_cpu_pc : (s.setHalted v).cpu.pc = s.cpu.pc := rfl
@[simp] theorem State.setHalted_cpu_ime : (s.setHalted v).cpu.ime = s.cpu.ime := rfl
@[simp] theorem State.setHalted_cpu_imeScheduled : (s.setHalted v).cpu.imeScheduled = s.cpu.imeScheduled := rfl
@[simp] theorem State.setHalted_cpu_haltBug : (s.setHalted v).cpu.haltBug = s.cpu.haltBug := rfl
@[simp] theorem State.setHalted_cpu_opPc : (s.setHalted v).cpu.opPc = s.cpu.opPc := rfl
@[simp] theorem State.setHalted_cpu_cycles : (s.setHalted v).cpu.cycles = s.cpu.cycles := rfl
@[simp] theorem State.setHalted_cpu_halted_new : (s.setHalted v).cpu.halted = v := rfl
@[simp] theorem State.setHalted_reg (q : Reg8) : (s.setHalted v).reg q = s.reg q := by cases q <;> rfl
@[simp] theorem State.setHalted_pair (q : Pair) : (s.setHalted v).pair q = s.pair q := by cases q <;> rfl
@[simp] theorem State.setHalted_hl : (s.setHalted v).hl = s.hl := rfl
@[simp] theorem State.setHalted_flagZ : (s.setHalted v).flagZ = s.flagZ := rfl
@[simp] theorem State.setHalted_flagN : (s.setHalted v).flagN = s.flagN := rfl
@[simp] theorem State.setHalted_flagH : (s.setHalted v).flagH = s.flagH := rfl
@[simp] theorem State.setHalted_flagC : (s.setHalted v).flagC = s.flagC := rfl
@[simp] theorem State.setHalted_pending : (s.setHalted v).pending = s.pending := rfl
@[simp] theorem State.setHalted_ioRead (i : Nat) : (s.setHalted v).ioRead i = s.ioRead i := rfl

end

/-! ## setHaltBug -/

section
variable (s : State) (v : Bool)

@[simp] theorem State.setHaltBug_io : (s.setHaltBug v).io = s.io := rfl
@[simp] theorem State.setHaltBug_timer : (s.setHaltBug v).timer = s.timer := rfl
@[simp] theorem State.setHaltBug_ppu : (s.setHaltBug v).ppu = s.ppu := rfl
@[simp] theorem State.setHaltBug_cart : (s.setHaltBug v).cart = s.cart := rfl
@[simp] theorem State.setHaltBug_mem : (s.setHaltBug v).mem = s.mem := rfl
@[simp] theorem State.setHaltBug_params : (s.setHaltBug v).params = s.params := rfl
@[simp] theorem State.setHaltBug_fault : (s.setHaltBug v).fault = s.fault := rfl
@[simp] theorem State.setHaltBug_cpu_a : (s.setHaltBug v).cpu.a = s.cpu.a := rfl
@[simp] theorem State.setHaltBug_cpu_f : (s.setHaltBug v).cpu.f = s.cpu.f := rfl
@[simp] theorem State.setHaltBug_cpu_b : (s.setHaltBug v).cpu.b = s.cpu.b := rfl
@[simp] theorem State.setHaltBug_cpu_c : (s.setHaltBug v).cpu.c = s.cpu.c := rfl
@[simp] theorem State.setHaltBug_cpu_d : (s.setHaltBug v).cpu.d = s.cpu.d := rfl
@[simp] theorem State.setHaltBug_cpu_e : (s.setHaltBug v).cpu.e = s.cpu.e := rfl
@[simp] theorem State.setHaltBug_cpu_h : (s.setHaltBug v).cpu.h = s.cpu.h := rfl
@[simp] theorem State.setHaltBug_cpu_l : (s.setHaltBug v).cpu.l = s.cpu.l := rfl
@[simp] theorem State.setHaltBug_cpu_sp : (s.setHaltBug v).cpu.sp = s.cpu.sp := rfl
@[simp] theorem State.setHaltBug_cpu_pc : (s.setHaltBug v).cpu.pc = s.cpu.pc := rfl
@[simp] theorem State.setHaltBug_cpu_ime : (s.setHaltBug v).cpu.ime = s.cpu.ime := rfl
@[simp] theorem State.setHaltBug_cpu_imeScheduled : (s.setHaltBug v).cpu.imeScheduled = s.cpu.imeScheduled := rfl
@[simp] theorem State.setHaltBug_cpu_halted : (s.setHaltBug v).cpu.halted = s.cpu.halted := rfl
@[simp] theorem State.setHaltBug_cpu_opPc : (s.setHaltBug v).cpu.opPc = s.cpu.opPc := rfl
@[simp] theorem State.setHaltBug_cpu_cycles : (s.setHaltBug v).cpu.cycles = s.cpu.cycles := rfl
@[simp] theorem State.setHaltBug_cpu_haltBug_new : (s.setHaltBug v).cpu.haltBug = v := rfl
@[simp] theorem State.setHaltBug_reg (q : Reg8) : (s.setHaltBug v).reg q = s.reg q := by cases q <;> rfl
@[simp] theorem State.setHaltBug_pair (q : Pair) : (s.setHaltBug v).pair q = s.pair q := by cases q <;> rfl
@[simp] theorem State.setHaltBug_hl : (s.setHaltBug v).hl = s.hl := rfl
@[simp] theorem State.setHaltBug_flagZ : (s.setHaltBug v).flagZ = s.flagZ := rfl
@[simp] theorem State.setHaltBug_flagN : (s.setHaltBug v).flagN = s.flagN := rfl
@[simp] theorem State.setHaltBug_flagH : (s.setHaltBug v).flagH = s.flagH := rfl
@[simp] theorem State.setHaltBug_flagC : (s.setHaltBug v).flagC = s.flagC := rfl
@[simp] theorem State.setHaltBug_pending : (s.setHaltBug v).pending = s.pending := rfl
@[simp] theorem State.setHaltBug_ioRead (i : Nat) : (s.setHaltBug v).ioRead i = s.ioRead i := rfl

end

/-! ## setOpPc -/

section
variable (s : State) (v : Word)

@[simp] theorem State.setOpPc_io : (s.setOpPc v).io = s.io := rfl
@[simp] theorem State.setOpPc_timer : (s.setOpPc v).timer = s.timer := rfl
@[simp] theorem State.setOpPc_ppu : (s.setOpPc v).ppu = s.ppu := rfl
@[simp] theorem State.setOpPc_cart : (s.setOpPc v).cart = s.cart := rfl
@[simp] theorem State.setOpPc_mem : (s.setOpPc v).mem = s.mem := rfl
@[simp] theorem State.setOpPc_params : (s.setOpPc v).params = s.params := rfl
@[simp] theorem State.setOpPc_fault : (s.setOpPc v).fault = s.fault := rfl
@[simp] theorem State.setOpPc_cpu_a : (s.setOpPc v).cpu.a = s.cpu.a := rfl
@[simp] theorem State.setOpPc_cpu_f : (s.setOpPc v).cpu.f = s.cpu.f := rfl
@[simp] theorem State.setOpPc_cpu_b : (s.setOpPc v).cpu.b = s.cpu.b := rfl
@[simp] theorem State.setOpPc_cpu_c : (s.setOpPc v).cpu.c = s.cpu.c := rfl
@[simp] theorem State.setOpPc_cpu_d : (s.setOpPc v).cpu.d = s.cpu.d := rfl
@[simp] theorem State.setOpPc_cpu_e : (s.setOpPc v).cpu.e = s.cpu.e := rfl
@[simp] theorem State.setOpPc_cpu_h : (s.setOpPc v).cpu.h = s.cpu.h := rfl
@[simp] theorem State.setOpPc_cpu_l : (s.setOpPc v).cpu.l = s.cpu.l := rfl
@[simp] theorem State.setOpPc_cpu_sp : (s.setOpPc v).cpu.sp = s.cpu.sp := rfl
@[simp] theorem State.setOpPc_cpu_pc : (s.setOpPc v).cpu.pc = s.cpu.pc := rfl
@[simp] theorem State.setOpPc_cpu_ime : (s.setOpPc v).cpu.ime = s.cpu.ime := rfl
@[simp] theorem State.setOpPc_cpu_imeScheduled : (s.setOpPc v).cpu.imeScheduled = s.cpu.imeScheduled := rfl
@[simp] theorem State.setOpPc_cpu_halted : (s.setOpPc v).cpu.halted = s.cpu.halted := rfl
@[simp] theorem State.setOpPc_cpu_haltBug : (s.setOpPc v).cpu.haltBug = s.cpu.haltBug := rfl
@[simp] theorem State.setOpPc_cpu_cycles : (s.setOpPc v).cpu.cycles = s.cpu.cycles := rfl
@[simp] theorem State.setOpPc_cpu_opPc_new : (s.setOpPc v).cpu.opPc = v := rfl
@[simp] theorem State.setOpPc_reg (q : Reg8) : (s.setOpPc v).reg q = s.reg q := by cases q <;> rfl
@[simp] theorem State.setOpPc_pair (q : Pair) : (s.setOpPc v).pair q = s.pair q := by cases q <;> rfl
@[simp] theorem State.setOpPc_hl : (s.setOpPc v).hl = s.hl := rfl
@[simp] theorem State.setOpPc_flagZ : (s.setOpPc v).flagZ = s.flagZ := rfl
@[simp] theorem State.setOpPc_flagN : (s.setOpPc v).flagN = s.flagN := rfl
@[simp] theorem State.setOpPc_flagH : (s.setOpPc v).flagH = s.flagH := rfl
@[simp] theorem State.setOpPc_flagC : (s.setOpPc v).flagC = s.flagC := rfl
@[simp] theorem State.setOpPc_pending : (s.setOpPc v).pending = s.pending := rfl
@[simp] theorem State.setOpPc_ioRead (i : Nat) : (s.setOpPc v).ioRead i = s.ioRead i := rfl

end

/-! ## setCycles -/

section
variable (s : State) (n : Nat)

@[simp] theorem State.setCycles_io : (s.setCycles n).io = s.io := rfl
@[simp] theorem State.setCycles_timer : (s.setCycles n).timer = s.timer := rfl
@[simp] theorem State.setCycles_ppu : (s.setCycles n).ppu = s.ppu := rfl
@[simp] theorem State.setCycles_cart : (s.setCycles n).cart = s.cart := rfl
@[simp] theorem State.setCycles_mem : (s.setCycles n).mem = s.mem := rfl
@[simp] theorem State.setCycles_params : (s.setCycles n).params = s.params := rfl
@[simp] theorem State.setCycles_fault : (s.setCycles n).fault = s.fault := rfl
@[simp] theorem State.setCycles_cpu_a : (s.setCycles n).cpu.a = s.cpu.a := rfl
@[simp] theorem State.setCycles_cpu_f : (s.setCycles n).cpu.f = s.cpu.f := rfl
@[simp] theorem State.setCycles_cpu_b : (s.setCycles n).cpu.b = s.cpu.b := rfl
@[simp] theorem State.setCycles_cpu_c : (s.setCycles n).cpu.c = s.cpu.c := rfl
@[simp] theorem State.setCycles_cpu_d : (s.setCycles n).cpu.d = s.cpu.d := rfl
@[simp] theorem State.setCycles_cpu_e : (s.setCycles n).cpu.e = s.cpu.e := rfl
@[simp] theorem State.setCycles_cpu_h : (s.setCycles n).cpu.h = s.cpu.h := rfl
@[simp] theorem State.setCycles_cpu_l : (s.setCycles n).cpu.l = s.cpu.l := rfl
@[simp] theorem State.setCycles_cpu_sp : (s.setCycles n).cpu.sp = s.cpu.sp := rfl
@[simp] theorem State.setCycles_cpu_pc : (s.setCycles n).cpu.pc = s.cpu.pc := rfl
@[simp] theorem State.setCycles_cpu_ime : (s.setCycles n).cpu.ime = s.cpu.ime := rfl
@[simp] theorem State.setCycles_cpu_imeScheduled : (s.setCycles n).cpu.imeScheduled = s.cpu.imeScheduled := rfl
@[simp] theorem State.setCycles_cpu_halted : (s.setCycles n).cpu.halted = s.cpu.halted := rfl
@[simp] theorem State.setCycles_cpu_haltBug : (s.setCycles n).cpu.haltBug = s.cpu.haltBug := rfl
@[simp] theorem State.setCycles_cpu_opPc : (s.setCycles n).cpu.opPc = s.cpu.opPc := rfl
@[simp] theorem State.setCycles_cpu_cycles_new : (s.setCycles n).cpu.cycles = n := rfl
@[simp] theorem State.setCycles_reg (q : Reg8) : (s.setCycles n).reg q = s.reg q := by cases q <;> rfl
@[simp] theorem State.setCycles_pair (q : Pair) : (s.setCycles n).pair q = s.pair q := by cases q <;> rfl
@[simp] theorem State.setCycles_hl : (s.setCycles n).hl = s.hl := rfl
@[simp] theorem State.setCycles_flagZ : (s.setCycles n).flagZ = s.flagZ := rfl
@[simp] theorem State.setCycles_flagN : (s.setCycles n).flagN = s.flagN := rfl
@[simp] theorem State.setCycles_flagH : (s.setCycles n).flagH = s.flagH := rfl
@[simp] theorem State.setCycles_flagC : (s.setCycles n).flagC = s.flagC := rfl
@[simp] theorem State.setCycles_pending : (s.setCycles n).pending = s.pending := rfl
@[simp] theorem State.setCycles_ioRead (i : Nat) : (s.setCycles n).ioRead i = s.ioRead i := rfl

end

/-! ## setFlags -/

section
variable (s : State) (z n h c : Bool)

@[simp] theorem State.setFlags_io : (s.setFlags z n h c).io = s.io := rfl
@[simp] theorem State.setFlags_timer : (s.setFlags z n h c).timer = s.timer := rfl
@[simp] theorem State.setFlags_ppu : (s.setFlags z n h c).ppu = s.ppu := rfl
@[simp] theorem State.setFlags_cart : (s.setFlags z n h c).cart = s.cart := rfl
@[simp] theorem State.setFlags_mem : (s.setFlags z n h c).mem = s.mem := rfl
@[simp] theorem State.setFlags_params : (s.setFlags z n h c).params = s.params := rfl
@[simp] theorem State.setFlags_fault : (s.setFlags z n h c).fault = s.fault := rfl
@[simp] theorem State.setFlags_cpu_a : (s.setFlags z n h c).cpu.a = s.cpu.a := rfl
@[simp] theorem State.setFlags_cpu_b : (s.setFlags z n h c).cpu.b = s.cpu.b := rfl
@[simp] theorem State.setFlags_cpu_c : (s.setFlags z n h c).cpu.c = s.cpu.c := rfl
@[simp] theorem State.setFlags_cpu_d : (s.setFlags z n h c).cpu.d = s.cpu.d := rfl
@[simp] theorem State.setFlags_cpu_e : (s.setFlags z n h c).cpu.e = s.cpu.e := rfl
@[simp] theorem State.setFlags_cpu_h : (s.setFlags z n h c).cpu.h = s.cpu.h := rfl
@[simp] theorem State.setFlags_cpu_l : (s.setFlags z n h c).cpu.l = s.cpu.l := rfl
@[simp] theorem State.setFlags_cpu_sp : (s.setFlags z n h c).cpu.sp = s.cpu.sp := rfl
@[simp] theorem State.setFlags_cpu_pc : (s.setFlags z n h c).cpu.pc = s.cpu.pc := rfl
@[simp] theorem State.setFlags_cpu_ime : (s.setFlags z n h c).cpu.ime = s.cpu.ime := rfl
@[simp] theorem State.setFlags_cpu_imeScheduled : (s.setFlags z n h c).cpu.imeScheduled = s.cpu.imeScheduled := rfl
@[simp] theorem State.setFlags_cpu_halted : (s.setFlags z n h c).cpu.halted = s.cpu.halted := rfl
@[simp] theorem State.setFlags_cpu_haltBug : (s.setFlags z n h c).cpu.haltBug = s.cpu.haltBug := rfl
@[simp] theorem State.setFlags_cpu_opPc : (s.setFlags z n h c).cpu.opPc = s.cpu.opPc := rfl
@[simp] theorem State.setFlags_cpu_cycles : (s.setFlags z n h c).cpu.cycles = s.cpu.cycles := rfl
@[simp] theorem State.setFlags_reg (q : Reg8) : (s.setFlags z n h c).reg q = s.reg q := by cases q <;> rfl
@[simp] theorem State.setFlags_pair (q : Pair) : (s.setFlags z n h c).pair q = s.pair q := by cases q <;> rfl
@[simp] theorem State.setFlags_hl : (s.setFlags z n h c).hl = s.hl := rfl
@[simp] theorem State.setFlags_pending : (s.setFlags z n h c).pending = s.pending := rfl
@[simp] theorem State.setFlags_ioRead (i : Nat) : (s.setFlags z n h c).ioRead i = s.ioRead i := rfl

end

/-! ## setPair -/

section
variable (s : State) (p : Pair) (v : Word)

@[simp] theorem State.setPair_io : (s.setPair p v).io = s.io := by cases p <;> rfl
@[simp] theorem State.setPair_timer : (s.setPair p v).timer = s.timer := by cases p <;> rfl
@[simp] theorem State.setPair_ppu : (s.setPair p v).ppu = s.ppu := by cases p <;> rfl
@[simp] theorem State.setPair_cart : (s.setPair p v).cart = s.cart := by cases p <;> rfl
@[simp] theorem State.setPair_mem : (s.setPair p v).mem = s.mem := by cases p <;> rfl
@[simp] theorem State.setPair_params : (s.setPair p v).params = s.params := by cases p <;> rfl
@[simp] theorem State.setPair_fault : (s.setPair p v).fault = s.fault := by cases p <;> rfl
@[simp] theorem State.setPair_cpu_f : (s.setPair p v).cpu.f = s.cpu.f := by cases p <;> rfl
@[simp] theorem State.setPair_cpu_pc : (s.setPair p v).cpu.pc = s.cpu.pc := by cases p <;> rfl
@[simp] theorem State.setPair_cpu_ime : (s.setPair p v).cpu.ime = s.cpu.ime := by cases p <;> rfl
@[simp] theorem State.setPair_cpu_imeScheduled : (s.setPair p v).cpu.imeScheduled = s.cpu.imeScheduled := by cases p <;> rfl
@[simp] theorem State.setPair_cpu_halted : (s.setPair p v).cpu.halted = s.cpu.halted := by cases p <;> rfl
@[simp] theorem State.setPair_cpu_haltBug : (s.setPair p v).cpu.haltBug = s.cpu.haltBug := by cases p <;> rfl
@[simp] theorem State.setPair_cpu_opPc : (s.setPair p v).cpu.opPc = s.cpu.opPc := by cases p <;> rfl
@[simp] theorem State.setPair_cpu_cycles : (s.setPair p v).cpu.cycles = s.cpu.cycles := by cases p <;> rfl
@[simp] theorem State.setPair_flagZ : (s.setPair p v).flagZ = s.flagZ := by cases p <;> rfl
@[simp] theorem State.setPair_flagN : (s.setPair p v).flagN = s.flagN := by cases p <;> rfl
@[simp] theorem State.setPair_flagH : (s.setPair p v).flagH = s.flagH := by cases p <;> rfl
@[simp] theorem State.setPair_flagC : (s.setPair p v).flagC = s.flagC := by cases p <;> rfl
@[simp] theorem State.setPair_pending : (s.setPair p v).pending = s.pending := by cases p <;> rfl
@[simp] theorem State.setPair_ioRead (i : Nat) : (s.setPair p v).ioRead i = s.ioRead i := by cases p <;> rfl

end

/-! ## setStackPair -/

section
variable (s : State) (p : StackPair) (v : Word)

@[simp] theorem State.setStackPair_io : (s.setStackPair p v).io = s.io := by cases p <;> rfl
@[simp] theorem State.setStackPair_timer : (s.setStackPair p v).timer = s.timer := by cases p <;> rfl
@[simp] theorem State.setStackPair_ppu : (s.setStackPair p v).ppu = s.ppu := by cases p <;> rfl
@[simp] theorem State.setStackPair_cart : (s.setStackPair p v).cart = s.cart := by cases p <;> rfl
@[simp] theorem State.setStackPair_mem : (s.setStackPair p v).mem = s.mem := by cases p <;> rfl
@[simp] theorem State.setStackPair_params : (s.setStackPair p v).params = s.params := by cases p <;> rfl
@[simp] theorem State.setStackPair_fault : (s.setStackPair p v).fault = s.fault := by cases p <;> rfl
@[simp] theorem State.setStackPair_cpu_sp : (s.setStackPair p v).cpu.sp = s.cpu.sp := by cases p <;> rfl
@[simp] theorem State.setStackPair_cpu_pc : (s.setStackPair p v).cpu.pc = s.cpu.pc := by cases p <;> rfl
@[simp] theorem State.setStackPair_cpu_ime : (s.setStackPair p v).cpu.ime = s.cpu.ime := by cases p <;> rfl
@[simp] theorem State.setStackPair_cpu_imeScheduled : (s.setStackPair p v).cpu.imeScheduled = s.cpu.imeScheduled := by cases p <;> rfl
@[simp] theorem State.setStackPair_cpu_halted : (s.setStackPair p v).cpu.halted = s.cpu.halted := by cases p <;> rfl
@[simp] theorem State.setStackPair_cpu_haltBug : (s.setStackPair p v).cpu.haltBug = s.cpu.haltBug := by cases p <;> rfl
@[simp] theorem State.setStackPair_cpu_opPc : (s.setStackPair p v).cpu.opPc = s.cpu.opPc := by cases p <;> rfl
@[simp] theorem State.setStackPair_cpu_cycles : (s.setStackPair p v).cpu.cycles = s.cpu.cycles := by cases p <;> rfl
@[simp] theorem State.setStackPair_pending : (s.setStackPair p v).pending = s.pending := by cases p <;> rfl
@[simp] theorem State.setStackPair_ioRead (i : Nat) : (s.setStackPair p v).ioRead i = s.ioRead i := by cases p <;> rfl

end

/-! ## Registers and pairs -/

theorem State.reg_setReg (s : State) (r q : Reg8) (v : Byte) :
    (s.setReg r v).reg q = if q = r then v else s.reg q := by
  cases r <;> cases q <;> rfl

@[simp] theorem State.reg_setReg_same (s : State) (r : Reg8) (v : Byte) : (s.setReg r v).reg r = v := by
  cases r <;> rfl

theorem State.reg_setReg_other (s : State) {r q : Reg8} (v : Byte) (h : q ≠ r) :
    (s.setReg r v).reg q = s.reg q := by
  rw [State.reg_setReg, if_neg h]

@[simp] theorem hiByte_word16 (hi lo : Byte) : hiByte (word16 hi lo) = hi := by
  apply BitVec.eq_of_getLsbD_eq
  intro i h
  simp only [hiByte, word16, BitVec.getLsbD_extractLsb', BitVec.getLsbD_append]
  simp [h]

@[simp] theorem loByte_word16 (hi lo : Byte) : loByte (word16 hi lo) = lo := by
  apply BitVec.eq_of_getLsbD_eq
  intro i h
  simp only [loByte, word16, BitVec.getLsbD_extractLsb', BitVec.getLsbD_append]
  simp [h]

@[simp] theorem word16_hi_lo (w : Word) : word16 (hiByte w) (loByte w) = w := by
  apply BitVec.eq_of_getLsbD_eq
  intro i h
  simp only [hiByte, loByte, word16, BitVec.getLsbD_append, BitVec.getLsbD_extractLsb', Nat.zero_add]
  by_cases low : i < 8
  · simp [low]
  · have h2 : i - 8 < 8 := by omega
    have h3 : 8 + (i - 8) = i := by omega
    simp [low, h2, h3]

/-- Reading a pair after writing it (10_state.md R22). -/
@[simp] theorem State.pair_setPair_same (s : State) (p : Pair) (v : Word) : (s.setPair p v).pair p = v := by
  cases p <;> first | exact word16_hi_lo v | rfl

/-! ## Flags -/

@[simp] theorem flagByte_masked (z n h c : Bool) : flagByte z n h c &&& 0xF0 = flagByte z n h c := by
  cases z <;> cases n <;> cases h <;> cases c <;> rfl

@[simp] theorem flagByte_low (z n h c : Bool) : flagByte z n h c &&& 0x0F = 0 := by
  cases z <;> cases n <;> cases h <;> cases c <;> rfl

@[simp] theorem State.setFlags_cpu_f_new (s : State) (z n h c : Bool) :
    (s.setFlags z n h c).cpu.f = flagByte z n h c := flagByte_masked z n h c

@[simp] theorem State.setFlags_flagZ (s : State) (z n h c : Bool) : (s.setFlags z n h c).flagZ = z := by
  simp only [State.flagZ, State.setFlags_cpu_f_new]
  cases z <;> cases n <;> cases h <;> cases c <;> rfl

@[simp] theorem State.setFlags_flagN (s : State) (z n h c : Bool) : (s.setFlags z n h c).flagN = n := by
  simp only [State.flagN, State.setFlags_cpu_f_new]
  cases z <;> cases n <;> cases h <;> cases c <;> rfl

@[simp] theorem State.setFlags_flagH (s : State) (z n h c : Bool) : (s.setFlags z n h c).flagH = h := by
  simp only [State.flagH, State.setFlags_cpu_f_new]
  cases z <;> cases n <;> cases h <;> cases c <;> rfl

@[simp] theorem State.setFlags_flagC (s : State) (z n h c : Bool) : (s.setFlags z n h c).flagC = c := by
  simp only [State.flagC, State.setFlags_cpu_f_new]
  cases z <;> cases n <;> cases h <;> cases c <;> rfl

/-! ## The flat array and IF -/

section
variable (s : State) (a : Nat) (v : Byte)

@[simp] theorem State.setArray_cpu : (s.setArray a v).cpu = s.cpu := rfl
@[simp] theorem State.setArray_io : (s.setArray a v).io = s.io := rfl
@[simp] theorem State.setArray_timer : (s.setArray a v).timer = s.timer := rfl
@[simp] theorem State.setArray_ppu : (s.setArray a v).ppu = s.ppu := rfl
@[simp] theorem State.setArray_cart : (s.setArray a v).cart = s.cart := rfl
@[simp] theorem State.setArray_mem : (s.setArray a v).mem = s.mem.write a v := rfl
@[simp] theorem State.setArray_params : (s.setArray a v).params = s.params := rfl
@[simp] theorem State.setArray_fault : (s.setArray a v).fault = s.fault := rfl

end

section
variable (s : State) (i : Fin 8)

@[simp] theorem State.raise_cpu : (s.raise i).cpu = s.cpu := rfl
@[simp] theorem State.raise_timer : (s.raise i).timer = s.timer := rfl
@[simp] theorem State.raise_ppu : (s.raise i).ppu = s.ppu := rfl
@[simp] theorem State.raise_cart : (s.raise i).cart = s.cart := rfl
@[simp] theorem State.raise_mem : (s.raise i).mem = s.mem := rfl
@[simp] theorem State.raise_params : (s.raise i).params = s.params := rfl
@[simp] theorem State.raise_fault : (s.raise i).fault = s.fault := rfl
@[simp] theorem State.raise_io_bootEnabled : (s.raise i).io.bootEnabled = s.io.bootEnabled := rfl
@[simp] theorem State.raise_io_joypad : (s.raise i).io.joypad = s.io.joypad := rfl
@[simp] theorem State.raise_io_ifl : (s.raise i).io.ifl = s.io.ifl ||| ((1#8) <<< i.val) := rfl
@[simp] theorem State.acknowledge_cpu : (s.acknowledge i).cpu = s.cpu := rfl
@[simp] theorem State.acknowledge_timer : (s.acknowledge i).timer = s.timer := rfl
@[simp] theorem State.acknowledge_ppu : (s.acknowledge i).ppu = s.ppu := rfl
@[simp] theorem State.acknowledge_cart : (s.acknowledge i).cart = s.cart := rfl
@[simp] theorem State.acknowledge_mem : (s.acknowledge i).mem = s.mem := rfl
@[simp] theorem State.acknowledge_params : (s.acknowledge i).params = s.params := rfl
@[simp] theorem State.acknowledge_fault : (s.acknowledge i).fault = s.fault := rfl

end

/-! ## Answers -/

section
variable {α : Type} (k : α → Result)

@[simp] theorem andThen_ok (a : α) : andThen (.ok a) k = k a := rfl
@[simp] theorem andThen_error (r : Fault) : andThen (.error r) k = .fault r := rfl

end

@[simp] theorem State.stop_record (s : State) (r : FaultRecord) : (s.stop r).record = r := by
  cases r <;> rfl

@[simp] theorem State.stop_left (s : State) (r : FaultRecord) :
    (s.stop r).left = { s with fault := some r } := by
  cases r <;> rfl

@[simp] theorem done_eq (n : Nat) (s : State) : done n s = .next (s.setCycles n) := rfl

end Sys2Proof.Machine
end

