-- ==== Sys2Proof/Laws/Memory.lean ====
section
/-! SUPPORT. What a read and a store can do, said once: when they are refused, what a store leaves, and
that every memory operation keeps the canonical form. -/

namespace Sys2Proof.Machine

/-! ## Refused accesses -/

theorem Mbc.ramBank_error {m : Mbc} {r : UnmodelledReason} (h : m.ramBank = .error r) :
    ∃ bank sel, m = .mbc3 true bank sel ∧ 4 ≤ sel.toNat ∧ r = .mbc3Select sel := by
  cases m with
  | romOnly => cases h
  | mbc1 => cases h
  | mbc2 => cases h
  | mbc5 => cases h
  | mbc3 en bank sel =>
    cases en with
    | false => cases h
    | true =>
      simp only [Mbc.ramBank, Bool.not_true, Bool.false_eq_true, if_false] at h
      split at h
      · cases h
      · next hs =>
        simp only [Except.error.injEq] at h
        exact ⟨bank, sel, rfl, by omega, h.symm⟩

theorem Mbc.ramBank_ok {m : Mbc} (h : m.allowsRam = true) : ∃ b, m.ramBank = .ok b := by
  cases m with
  | romOnly => exact ⟨_, rfl⟩
  | mbc1 => exact ⟨_, rfl⟩
  | mbc2 => exact ⟨_, rfl⟩
  | mbc5 => exact ⟨_, rfl⟩
  | mbc3 en bank sel =>
    cases en with
    | false => exact ⟨_, rfl⟩
    | true =>
      have hs : sel.toNat ≤ 3 := by simpa [Mbc.allowsRam] using h
      exact ⟨some sel.toNat, by simp [Mbc.ramBank, hs]⟩

theorem Cart.ramRead_error {c : Cart} {a : Nat} {r : UnmodelledReason} (h : c.ramRead a = .error r) :
    c.mbc.ramBank = .error r := by
  unfold Cart.ramRead at h
  split at h
  · next e he => simpa [he] using h
  · cases h
  · split at h
    · cases h
    · split at h <;> cases h

theorem Cart.ramRead_ok {c : Cart} (a : Nat) (h : c.mbc.allowsRam = true) : ∃ v, c.ramRead a = .ok v := by
  cases hr : c.ramRead a with
  | ok v => exact ⟨v, rfl⟩
  | error r =>
    obtain ⟨b, hb⟩ := Mbc.ramBank_ok h
    rw [Cart.ramRead_error hr] at hb
    cases hb

theorem Cart.ramWrite_error {c : Cart} {a : Nat} {v : Byte} {r : UnmodelledReason}
    (h : c.ramWrite a v = .error r) : c.mbc.ramBank = .error r := by
  unfold Cart.ramWrite at h
  split at h
  · next e he => simpa [he] using h
  · cases h
  · split at h
    · cases h
    · split at h <;> cases h

theorem Cart.ramWrite_ok {c : Cart} (a : Nat) (v : Byte) (h : c.mbc.allowsRam = true) :
    ∃ d, c.ramWrite a v = .ok d := by
  cases hr : c.ramWrite a v with
  | ok d => exact ⟨d, rfl⟩
  | error r =>
    obtain ⟨b, hb⟩ := Mbc.ramBank_ok h
    rw [Cart.ramWrite_error hr] at hb
    cases hb

theorem State.orRaise_error {α : Type} {s : State} {x : Except UnmodelledReason α} {r : FaultRecord}
    (h : s.orRaise x = .error r) : ∃ e, x = .error e ∧ r = .unmodelled e s.cpu.opPc := by
  cases x with
  | ok v => cases h
  | error e =>
    simp only [State.orRaise, Except.error.injEq] at h
    exact ⟨e, rfl, h.symm⟩

theorem State.orRaise_ok {α : Type} {s : State} {x : Except UnmodelledReason α} {v : α}
    (h : s.orRaise x = .ok v) : x = .ok v := by
  cases x with
  | ok u => simpa [State.orRaise] using h
  | error e => cases h

theorem State.refuses_of_ramBank {s : State} {e : UnmodelledReason} (h : s.cart.mbc.ramBank = .error e) :
    s.Refuses (.unmodelled e s.cpu.opPc) := by
  obtain ⟨bank, sel, hm, hs, rfl⟩ := Mbc.ramBank_error h
  exact ⟨bank, sel, hm, hs, rfl⟩

/-! ## Reading -/

theorem inCartRam_iff (a : Word) : inCartRam a = true ↔ 0xA000 ≤ a.toNat ∧ a.toNat ≤ 0xBFFF := by
  simp [inCartRam]

/-- A read outside the RAM window is never refused. -/
theorem State.memRead_outside {s : State} {a : Word} (h : inCartRam a = false) :
    ∃ v, s.memRead a = .ok v := by
  have h' : ¬(0xA000 ≤ a.toNat ∧ a.toNat ≤ 0xBFFF) := by simpa [inCartRam] using h
  unfold State.memRead
  repeat' split
  all_goals first | exact ⟨_, rfl⟩ | omega

/-- A read of the RAM window is the cartridge's. -/
theorem State.memRead_inside {s : State} {a : Word} (h : inCartRam a = true) :
    s.memRead a = s.orRaise (s.cart.ramRead a.toNat) := by
  obtain ⟨h1, h2⟩ := (inCartRam_iff a).mp h
  have n1 : ¬a.toNat ≤ 0x00FF := by omega
  have n2 : ¬a.toNat ≤ 0x7FFF := by omega
  have n3 : ¬a.toNat ≤ 0x9FFF := by omega
  simp [State.memRead, n1, n2, n3, h2]

/-- A readable address is read (20_memory.md R69). -/
theorem State.memRead_ok {s : State} {a : Word} (h : s.readable a = true) : ∃ v, s.memRead a = .ok v := by
  cases ha : inCartRam a with
  | false => exact State.memRead_outside ha
  | true =>
    obtain ⟨v, hv⟩ := Cart.ramRead_ok (c := s.cart) a.toNat (by simpa [State.readable, ha] using h)
    exact ⟨v, by rw [State.memRead_inside ha, hv]; rfl⟩

/-- A read is refused only in the RAM window, by an MBC3. -/
theorem State.memRead_error {s : State} {a : Word} {r : FaultRecord} (h : s.memRead a = .error r) :
    inCartRam a = true ∧ s.Refuses r := by
  cases ha : inCartRam a with
  | false =>
    obtain ⟨v, hv⟩ := State.memRead_outside (s := s) ha
    rw [hv] at h
    cases h
  | true =>
    rw [State.memRead_inside ha] at h
    obtain ⟨e, he, rfl⟩ := State.orRaise_error h
    exact ⟨rfl, State.refuses_of_ramBank (Cart.ramRead_error he)⟩

/-- A read the controller does not allow is refused. -/
theorem State.memRead_refused {s : State} {a : Word} (h : s.readable a = false) :
    ∃ r, s.memRead a = .error r := by
  cases hr : s.memRead a with
  | error r => exact ⟨r, rfl⟩
  | ok v =>
    simp only [State.readable, Bool.or_eq_false_iff, Bool.not_eq_false'] at h
    obtain ⟨ha, hm⟩ := h
    rw [State.memRead_inside ha] at hr
    have hc := State.orRaise_ok hr
    unfold Cart.ramRead at hc
    cases hb : s.cart.mbc.ramBank with
    | error e => rw [hb] at hc; cases hc
    | ok b =>
      cases hk : s.cart.mbc with
      | mbc3 en bank sel =>
        rw [hk] at hb hm
        simp only [Mbc.allowsRam, Bool.or_eq_false_iff, Bool.not_eq_false',
          decide_eq_false_iff_not] at hm
        simp [Mbc.ramBank, hm.1, hm.2] at hb
      | romOnly => rw [hk] at hm; cases hm
      | mbc1 => rw [hk] at hm; cases hm
      | mbc2 => rw [hk] at hm; cases hm
      | mbc5 => rw [hk] at hm; cases hm

/-- A read sees the CPU only through the pc a refusal records. -/
theorem State.memRead_cpu (s : State) (c : Cpu) (a : Word) (h : c.opPc = s.cpu.opPc) :
    ({ s with cpu := c } : State).memRead a = s.memRead a := by
  simp only [State.memRead, State.orRaise, State.array, State.ioRead, h]

/-- A read sees no fault record. -/
theorem State.memRead_fault (s : State) (f : Option FaultRecord) (a : Word) :
    ({ s with fault := f } : State).memRead a = s.memRead a := rfl

section
variable (s : State) (a : Word)

@[simp] theorem State.memRead_setReg (r : Reg8) (v : Byte) : (s.setReg r v).memRead a = s.memRead a :=
  State.memRead_cpu s _ a (State.setReg_cpu_opPc s r v)
@[simp] theorem State.memRead_setF (v : Byte) : (s.setF v).memRead a = s.memRead a :=
  State.memRead_cpu s _ a rfl
@[simp] theorem State.memRead_setFlags (z n h c : Bool) : (s.setFlags z n h c).memRead a = s.memRead a :=
  State.memRead_cpu s _ a rfl
@[simp] theorem State.memRead_setSp (v : Word) : (s.setSp v).memRead a = s.memRead a :=
  State.memRead_cpu s _ a rfl
@[simp] theorem State.memRead_setPc (v : Word) : (s.setPc v).memRead a = s.memRead a :=
  State.memRead_cpu s _ a rfl
@[simp] theorem State.memRead_setIme (v w : Bool) : (s.setIme v w).memRead a = s.memRead a :=
  State.memRead_cpu s _ a rfl
@[simp] theorem State.memRead_setHalted (v : Bool) : (s.setHalted v).memRead a = s.memRead a :=
  State.memRead_cpu s _ a rfl
@[simp] theorem State.memRead_setHaltBug (v : Bool) : (s.setHaltBug v).memRead a = s.memRead a :=
  State.memRead_cpu s _ a rfl
@[simp] theorem State.memRead_setCycles (n : Nat) : (s.setCycles n).memRead a = s.memRead a :=
  State.memRead_cpu s _ a rfl
@[simp] theorem State.memRead_setPair (p : Pair) (v : Word) : (s.setPair p v).memRead a = s.memRead a := by
  cases p <;> exact State.memRead_cpu s _ a rfl
@[simp] theorem State.memRead_setStackPair (p : StackPair) (v : Word) :
    (s.setStackPair p v).memRead a = s.memRead a := by
  cases p <;> exact State.memRead_cpu s _ a rfl

end

/-! ## What a store leaves -/

/-- What no store changes: the CPU, the launch, the fault record, the joypad input, the framebuffer, the
ROM image, the shape of the cartridge; and the boot overlay, once off, stays off. -/
structure State.StoreFrame (s t : State) : Prop where
  cpu : t.cpu = s.cpu
  params : t.params = s.params
  fault : t.fault = s.fault
  joypad : t.io.joypad = s.io.joypad
  boot : t.io.bootEnabled = true → s.io.bootEnabled = true
  acc : t.timer.timaAcc = s.timer.timaAcc
  frame : t.ppu.frame = s.ppu.frame
  frameReady : t.ppu.frameReady = s.ppu.frameReady
  coincidence : t.ppu.coincidence = s.ppu.coincidence
  rom : t.cart.rom = s.cart.rom
  romSize : t.cart.romSize = s.cart.romSize
  romBankCount : t.cart.romBankCount = s.cart.romBankCount
  ramSize : t.cart.ramSize = s.cart.ramSize
  ramBankCount : t.cart.ramBankCount = s.cart.ramBankCount
  remapZero : t.cart.remapZero = s.cart.remapZero
  unusable : ∀ a, 0xFEA0 ≤ a → a ≤ 0xFEFF → t.array a = s.array a

theorem State.StoreFrame.refl (s : State) : s.StoreFrame s :=
  ⟨rfl, rfl, rfl, rfl, id, rfl, rfl, rfl, rfl, rfl, rfl, rfl, rfl, rfl, rfl, fun _ _ _ => rfl⟩

theorem State.StoreFrame.trans {s t u : State} (h : s.StoreFrame t) (k : t.StoreFrame u) :
    s.StoreFrame u :=
  ⟨k.cpu.trans h.cpu, k.params.trans h.params, k.fault.trans h.fault, k.joypad.trans h.joypad,
    fun b => h.boot (k.boot b), k.acc.trans h.acc, k.frame.trans h.frame,
    k.frameReady.trans h.frameReady, k.coincidence.trans h.coincidence, k.rom.trans h.rom,
    k.romSize.trans h.romSize, k.romBankCount.trans h.romBankCount, k.ramSize.trans h.ramSize,
    k.ramBankCount.trans h.ramBankCount, k.remapZero.trans h.remapZero,
    fun a l u => (k.unusable a l u).trans (h.unusable a l u)⟩

theorem State.array_setArray_same (s : State) (a : Nat) (v : Byte) : (s.setArray a v).array a = v :=
  Memory.read_write_same s.mem a v

theorem State.array_setArray_other (s : State) {a b : Nat} (v : Byte) (h : b ≠ a) :
    (s.setArray a v).array b = s.array b := Memory.read_write_other s.mem v h

theorem State.setArray_storeFrame (s : State) {a : Nat} (v : Byte) (h : a < 0xFEA0 ∨ 0xFEFF < a) :
    s.StoreFrame (s.setArray a v) :=
  ⟨rfl, rfl, rfl, rfl, id, rfl, rfl, rfl, rfl, rfl, rfl, rfl, rfl, rfl, rfl,
    fun _ _ _ => State.array_setArray_other s v (by omega)⟩

theorem State.dmaCopy_array {base : Word} {n : Nat} {s t : State} (h : State.dmaCopy base n s = .ok t) :
    t = { s with mem := t.mem } := by
  induction n generalizing s with
  | zero =>
    simp only [State.dmaCopy, Except.ok.injEq] at h
    subst h
    rfl
  | succ n ih =>
    simp only [State.dmaCopy] at h
    split at h
    · exact (ih h).trans rfl
    · cases h

theorem State.dmaCopy_storeFrame {base : Word} {n : Nat} (hn : n ≤ 160) {s t : State}
    (h : State.dmaCopy base n s = .ok t) : s.StoreFrame t := by
  induction n generalizing s with
  | zero =>
    simp only [State.dmaCopy, Except.ok.injEq] at h
    exact h ▸ State.StoreFrame.refl s
  | succ n ih =>
    simp only [State.dmaCopy] at h
    split at h
    · exact (State.setArray_storeFrame s _ (by omega)).trans (ih (by omega) h)
    · cases h

theorem Ppu.writeLcdc_frame (p : Ppu) (v : Byte) :
    (p.writeLcdc v).frame = p.frame ∧ (p.writeLcdc v).frameReady = p.frameReady
      ∧ (p.writeLcdc v).coincidence = p.coincidence ∧ (p.writeLcdc v).statEnables = p.statEnables := by
  unfold Ppu.writeLcdc
  repeat' split
  all_goals exact ⟨rfl, rfl, rfl, rfl⟩

theorem State.ioStore_storeFrame (s : State) {a : Nat} (v : Byte) (h : 0xFEFF < a) :
    s.StoreFrame (s.ioStore a v) := by
  unfold State.ioStore
  split
  case h_9 =>
    obtain ⟨h1, h2, h3, -⟩ := Ppu.writeLcdc_frame s.ppu v
    exact ⟨rfl, rfl, rfl, rfl, id, rfl, h1, h2, h3, rfl, rfl, rfl, rfl, rfl, rfl, fun _ _ _ => rfl⟩
  case h_20 =>
    refine ⟨rfl, rfl, rfl, rfl, ?_, rfl, rfl, rfl, rfl, rfl, rfl, rfl, rfl, rfl, rfl, fun _ _ _ => rfl⟩
    intro hb
    by_contra hn
    simp [Io.writeBoot, hn] at hb
  case h_21 => exact State.setArray_storeFrame s v (.inr h)
  all_goals
    exact ⟨rfl, rfl, rfl, rfl, id, rfl, rfl, rfl, rfl, rfl, rfl, rfl, rfl, rfl, rfl, fun _ _ _ => rfl⟩

theorem Cart.ramWrite_frame {c d : Cart} {a : Nat} {v : Byte} (h : c.ramWrite a v = .ok d) :
    d = { c with ram := d.ram, ram4 := d.ram4 } := by
  unfold Cart.ramWrite at h
  split at h
  · cases h
  · simp only [Except.ok.injEq] at h; subst h; rfl
  · split at h
    · simp only [Except.ok.injEq] at h; subst h; rfl
    · split at h <;> (simp only [Except.ok.injEq] at h; subst h; rfl)

theorem State.cartRamWrite_ok {s t : State} {a : Nat} {v : Byte} (h : s.cartRamWrite a v = .ok t) :
    ∃ d, s.cart.ramWrite a v = .ok d ∧ t = { s with cart := d } := by
  unfold State.cartRamWrite at h
  split at h
  · next d hd =>
    simp only [Except.ok.injEq] at h
    exact ⟨d, State.orRaise_ok hd, h.symm⟩
  · cases h

/-- A store leaves what no store changes. -/
theorem State.memWrite_storeFrame {s t : State} {a : Word} {v : Byte} (h : s.memWrite a v = .ok t) :
    s.StoreFrame t := by
  unfold State.memWrite at h
  split at h
  · simp only [Except.ok.injEq] at h
    subst h
    exact ⟨rfl, rfl, rfl, rfl, id, rfl, rfl, rfl, rfl, rfl, rfl, rfl, rfl, rfl, rfl, fun _ _ _ => rfl⟩
  split at h
  · simp only [Except.ok.injEq] at h; subst h; exact State.setArray_storeFrame s v (by omega)
  split at h
  · obtain ⟨d, hd, rfl⟩ := State.cartRamWrite_ok h
    rw [Cart.ramWrite_frame hd]
    exact ⟨rfl, rfl, rfl, rfl, id, rfl, rfl, rfl, rfl, rfl, rfl, rfl, rfl, rfl, rfl, fun _ _ _ => rfl⟩
  split at h
  · simp only [Except.ok.injEq] at h; subst h; exact State.setArray_storeFrame s v (by omega)
  split at h
  · simp only [Except.ok.injEq] at h; subst h; exact State.setArray_storeFrame s v (by omega)
  split at h
  · simp only [Except.ok.injEq] at h; subst h; exact State.setArray_storeFrame s v (by omega)
  split at h
  · simp only [Except.ok.injEq] at h; exact h ▸ State.StoreFrame.refl s
  split at h
  · unfold State.ioWrite at h
    split at h
    · refine State.StoreFrame.trans ?_ (State.dmaCopy_storeFrame (Nat.le_refl 160) h)
      exact ⟨rfl, rfl, rfl, rfl, id, rfl, rfl, rfl, rfl, rfl, rfl, rfl, rfl, rfl, rfl, fun _ _ _ => rfl⟩
    · simp only [Except.ok.injEq] at h; subst h; exact State.ioStore_storeFrame s v (by omega)
  split at h
  · simp only [Except.ok.injEq] at h; subst h; exact State.setArray_storeFrame s v (by omega)
  · simp only [Except.ok.injEq] at h
    subst h
    exact ⟨rfl, rfl, rfl, rfl, id, rfl, rfl, rfl, rfl, rfl, rfl, rfl, rfl, rfl, rfl, fun _ _ _ => rfl⟩

/-! ## What a store keeps -/

/-- The part of the invariant that a store of the CPU can touch and keeps. -/
structure State.StoreInv (s : State) : Prop where
  statBits : s.ppu.statEnables &&& 0x87 = 0
  ppu : s.ppu.Timed
  bank : s.cart.mbc.bankNonzero = true
  mem : Memory.wf s.mem = true
  ram : Memory.wf s.cart.ram = true
  ram4 : Cells.wf s.cart.ram4 = true

theorem remapZeroBank_ne_zero {w : Nat} (b : BitVec w) (hw : 1#w ≠ 0#w) : remapZeroBank b ≠ 0#w := by
  unfold remapZeroBank
  split
  · exact hw
  · assumption

theorem Mbc.control_bankNonzero {m : Mbc} (a : Nat) (v : Byte) (h : m.bankNonzero = true) :
    (m.control a v).bankNonzero = true := by
  have hz : ∀ {w : Nat} (b : BitVec w), 1#w ≠ 0#w → (remapZeroBank b != 0#w) = true :=
    fun b hw => by simpa using remapZeroBank_ne_zero b hw
  cases m with
  | romOnly => rfl
  | mbc1 en b1 b2 mode =>
    simp only [Mbc.control]
    split
    · exact h
    split
    · exact hz (v.setWidth 5) (by decide)
    split <;> exact h
  | mbc2 en b =>
    simp only [Mbc.control]
    split
    · exact h
    split
    · exact hz (v.setWidth 4) (by decide)
    · exact h
  | mbc3 en b sel =>
    simp only [Mbc.control]
    split
    · exact h
    split
    · exact hz (v.setWidth 7) (by decide)
    split <;> exact h
  | mbc5 en b r =>
    simp only [Mbc.control]
    repeat' split
    all_goals rfl

theorem Ppu.writeLcdc_timed {p : Ppu} (v : Byte) (h : p.Timed) : (p.writeLcdc v).Timed := by
  unfold Ppu.writeLcdc
  split
  · next hb =>
    have hb' : p.lcdOn = v.getLsbD 7 := by simpa using hb
    exact ⟨h.clock, h.line, h.vBlank, fun hoff => h.frozen (hb'.trans hoff)⟩
  split
  · next hv =>
    exact ⟨Nat.zero_lt_succ _, Nat.zero_le _, by simp, fun hoff => by
      simp only [Ppu.lcdOn] at hoff
      rw [hv] at hoff
      cases hoff⟩
  · exact ⟨Nat.zero_lt_succ _, Nat.zero_le _, by simp, fun _ => ⟨rfl, rfl, rfl⟩⟩

theorem State.setArray_storeInv {s : State} (a : Nat) (v : Byte) (h : s.StoreInv) :
    (s.setArray a v).StoreInv :=
  ⟨h.statBits, h.ppu, h.bank, Memory.wf_write a v h.mem, h.ram, h.ram4⟩

theorem State.dmaCopy_storeInv {base : Word} {n : Nat} {s t : State}
    (h : State.dmaCopy base n s = .ok t) (hi : s.StoreInv) : t.StoreInv := by
  induction n generalizing s with
  | zero =>
    simp only [State.dmaCopy, Except.ok.injEq] at h
    exact h ▸ hi
  | succ n ih =>
    simp only [State.dmaCopy] at h
    split at h
    · exact ih h (State.setArray_storeInv _ _ hi)
    · cases h

theorem stat_masked (v : Byte) : v &&& 0x78 &&& 0x87 = 0 := by
  rw [BitVec.and_assoc]
  exact BitVec.and_zero

theorem State.ioStore_storeInv {s : State} (a : Nat) (v : Byte) (h : s.StoreInv) :
    (s.ioStore a v).StoreInv := by
  obtain ⟨h1, h2, h3, h4, h5, h6⟩ := h
  unfold State.ioStore
  split
  case h_9 => exact ⟨(Ppu.writeLcdc_frame s.ppu v).2.2.2 ▸ h1, Ppu.writeLcdc_timed v h2, h3, h4, h5, h6⟩
  case h_10 => exact ⟨stat_masked v, ⟨h2.clock, h2.line, h2.vBlank, h2.frozen⟩, h3, h4, h5, h6⟩
  case h_21 => exact ⟨h1, h2, h3, Memory.wf_write a v h4, h5, h6⟩
  all_goals exact ⟨h1, ⟨h2.clock, h2.line, h2.vBlank, h2.frozen⟩, h3, h4, h5, h6⟩

theorem Cart.ramWrite_wf {c d : Cart} {a : Nat} {v : Byte} (h : c.ramWrite a v = .ok d)
    (hr : Memory.wf c.ram = true) (h4 : Cells.wf c.ram4 = true) :
    Memory.wf d.ram = true ∧ Cells.wf d.ram4 = true := by
  unfold Cart.ramWrite at h
  split at h
  · cases h
  · simp only [Except.ok.injEq] at h; subst h; exact ⟨hr, h4⟩
  · split at h
    · simp only [Except.ok.injEq] at h; subst h; exact ⟨hr, Cells.wf_set _ _ h4⟩
    · split at h
      · simp only [Except.ok.injEq] at h; subst h; exact ⟨Memory.wf_write _ _ hr, h4⟩
      · simp only [Except.ok.injEq] at h; subst h; exact ⟨hr, h4⟩

/-- A store keeps the canonical form of every memory, the legal positions of the PPU, STAT's stored bits
and the remapped bank registers. -/
theorem State.memWrite_storeInv {s t : State} {a : Word} {v : Byte} (h : s.memWrite a v = .ok t)
    (hi : s.StoreInv) : t.StoreInv := by
  unfold State.memWrite at h
  split at h
  · simp only [Except.ok.injEq] at h
    subst h
    exact ⟨hi.statBits, hi.ppu, Mbc.control_bankNonzero _ v hi.bank, hi.mem, hi.ram, hi.ram4⟩
  split at h
  · simp only [Except.ok.injEq] at h; subst h; exact State.setArray_storeInv _ v hi
  split at h
  · obtain ⟨d, hd, rfl⟩ := State.cartRamWrite_ok h
    obtain ⟨w1, w2⟩ := Cart.ramWrite_wf hd hi.ram hi.ram4
    refine ⟨hi.statBits, hi.ppu, ?_, hi.mem, w1, w2⟩
    show d.mbc.bankNonzero = true
    rw [Cart.ramWrite_frame hd]
    exact hi.bank
  split at h
  · simp only [Except.ok.injEq] at h; subst h; exact State.setArray_storeInv _ v hi
  split at h
  · simp only [Except.ok.injEq] at h; subst h; exact State.setArray_storeInv _ v hi
  split at h
  · simp only [Except.ok.injEq] at h; subst h; exact State.setArray_storeInv _ v hi
  split at h
  · simp only [Except.ok.injEq] at h; exact h ▸ hi
  split at h
  · unfold State.ioWrite at h
    split at h
    · refine State.dmaCopy_storeInv h ⟨hi.statBits, hi.ppu, hi.bank, hi.mem, hi.ram, hi.ram4⟩
    · simp only [Except.ok.injEq] at h; subst h; exact State.ioStore_storeInv _ v hi
  split at h
  · simp only [Except.ok.injEq] at h; subst h; exact State.setArray_storeInv _ v hi
  · simp only [Except.ok.injEq] at h
    subst h
    exact ⟨hi.statBits, hi.ppu, hi.bank, hi.mem, hi.ram, hi.ram4⟩

end Sys2Proof.Machine
end

