-- ==== Sys2Proof/Laws/Ops.lean ====
section
/-! SUPPORT. What going on after an access, a store and a stack transfer can do, said once. -/

namespace Sys2Proof.Machine

/-! ## Going on -/

@[simp] theorem done_next {n : Nat} {s t : State} : done n s = .next t ↔ t = s.setCycles n := by
  simp [done, eq_comm]

@[simp] theorem done_fault {n : Nat} {s : State} {r : Fault} : done n s = .fault r ↔ False := by
  simp [done]

@[simp] theorem done_refused {n : Nat} {s : State} {q : Refusal} : done n s = .refused q ↔ False := by
  simp [done]

theorem andThen_next {α : Type} {x : Except Fault α} {k : α → Result} {t : State} :
    andThen x k = .next t ↔ ∃ a, x = .ok a ∧ k a = .next t := by
  cases x <;> simp [andThen]

theorem andThen_fault {α : Type} {x : Except Fault α} {k : α → Result} {r : Fault} :
    andThen x k = .fault r ↔ x = .error r ∨ ∃ a, x = .ok a ∧ k a = .fault r := by
  cases x <;> simp [andThen]

theorem andThen_refused {α : Type} {x : Except Fault α} {k : α → Result} {q : Refusal} :
    andThen x k = .refused q ↔ ∃ a, x = .ok a ∧ k a = .refused q := by
  cases x <;> simp [andThen]

/-- A load that goes through gives the byte read. -/
@[simp] theorem State.load_ok {s : State} {a : Word} {v : Byte} :
    s.load a = .ok v ↔ s.memRead a = .ok v := by
  unfold State.load
  cases s.memRead a <;> simp

/-- A load that is refused leaves the state it was made in. -/
theorem State.load_error {s : State} {a : Word} {f : Fault} :
    s.load a = .error f ↔ ∃ r, s.memRead a = .error r ∧ f = s.stop r := by
  unfold State.load
  cases s.memRead a <;> simp [eq_comm]

theorem State.readByte_next {s t : State} {a : Word} {k : Byte → Result} :
    s.readByte a k = .next t ↔ ∃ v, s.memRead a = .ok v ∧ k v = .next t := by
  simp only [State.readByte, andThen_next, State.load_ok]

theorem State.writeByte_next {s t : State} {a : Word} {v : Byte} {k : State → Result} :
    s.writeByte a v k = .next t ↔ ∃ m, s.memWrite a v = .ok m ∧ k m = .next t := andThen_next

theorem State.readByte_fault {s : State} {a : Word} {k : Byte → Result} {r : Fault} :
    s.readByte a k = .fault r ↔
      (∃ e, s.memRead a = .error e ∧ r = s.stop e) ∨ ∃ v, s.memRead a = .ok v ∧ k v = .fault r := by
  simp only [State.readByte, andThen_fault, State.load_ok, State.load_error]

theorem State.writeByte_fault {s : State} {a : Word} {v : Byte} {k : State → Result} {r : Fault} :
    s.writeByte a v k = .fault r ↔
      s.memWrite a v = .error r ∨ ∃ m, s.memWrite a v = .ok m ∧ k m = .fault r := andThen_fault

theorem State.readByte_refused {s : State} {a : Word} {k : Byte → Result} {q : Refusal} :
    s.readByte a k = .refused q ↔ ∃ v, s.memRead a = .ok v ∧ k v = .refused q := by
  simp only [State.readByte, andThen_refused, State.load_ok]

theorem State.writeByte_refused {s : State} {a : Word} {v : Byte} {k : State → Result} {q : Refusal} :
    s.writeByte a v k = .refused q ↔ ∃ m, s.memWrite a v = .ok m ∧ k m = .refused q := andThen_refused

theorem onNext_next {r : Result} {f : State → State} {t : State} :
    onNext r f = .next t ↔ ∃ u, r = .next u ∧ f u = t := by
  cases r <;> simp [onNext]

theorem onNext_fault {r : Result} {f : State → State} {e : Fault} :
    onNext r f = .fault e ↔ r = .fault e := by
  cases r <;> simp [onNext]

theorem onNext_refused {r : Result} {f : State → State} {q : Refusal} :
    onNext r f = .refused q ↔ r = .refused q := by
  cases r <;> simp [onNext]

/-! ## A store and the CPU -/

/-- The fault with another CPU in the state it leaves. -/
def Fault.withCpu (f : Fault) (c : Cpu) : Fault :=
  match f with
  | .decodeError op pc t => .decodeError op pc { t with cpu := c }
  | .unmodelled reason pc t => .unmodelled reason pc { t with cpu := c }

@[simp] theorem Fault.withCpu_record (f : Fault) (c : Cpu) : (f.withCpu c).record = f.record := by
  cases f <;> rfl

@[simp] theorem Fault.withCpu_left (f : Fault) (c : Cpu) :
    (f.withCpu c).left = { f.left with cpu := c } := by
  cases f <;> rfl

theorem State.stop_withCpu (s : State) (r : FaultRecord) (c : Cpu) :
    (s.stop r).withCpu c = State.stop { s with cpu := c } r := by
  cases r <;> rfl

/-- The outcome of a store with another CPU in the state it leaves. -/
def withCpu (c : Cpu) (x : Except Fault State) : Except Fault State :=
  match x with
  | .ok m => .ok { m with cpu := c }
  | .error f => .error (f.withCpu c)

/-- The OAM DMA copy sees the CPU only through the pc a refusal records. -/
theorem State.dmaCopy_cpu (base : Word) (n : Nat) (s : State) (c : Cpu) (h : c.opPc = s.cpu.opPc) :
    State.dmaCopy base n { s with cpu := c } = withCpu c (State.dmaCopy base n s) := by
  induction n generalizing s with
  | zero => rfl
  | succ n ih =>
    simp only [State.dmaCopy]
    rw [State.memRead_cpu s c _ h]
    split
    · exact ih (s.setArray _ _) h
    · simp only [withCpu, State.stop_withCpu]

/-- A store sees the CPU only through the pc a refusal records, and leaves it as it was. -/
theorem State.memWrite_cpu (s : State) (c : Cpu) (a : Word) (v : Byte) (h : c.opPc = s.cpu.opPc) :
    ({ s with cpu := c } : State).memWrite a v = withCpu c (s.memWrite a v) := by
  unfold State.memWrite
  split
  · rfl
  split
  · rfl
  split
  · simp only [State.cartRamWrite, State.orRaise, h]
    cases s.cart.ramWrite a.toNat v with
    | ok d => rfl
    | error e => simp only [withCpu, State.stop_withCpu]
  split
  · rfl
  split
  · rfl
  split
  · rfl
  split
  · rfl
  split
  · unfold State.ioWrite
    split
    · exact State.dmaCopy_cpu (word16 v 0) 160 { s with io := { s.io with dma := v } } c h
    · simp only [withCpu, Except.ok.injEq]
      unfold State.ioStore
      split <;> rfl
  split
  · rfl
  · rfl

/-- So a store that goes through from `s` goes through from `s` with another CPU. -/
theorem State.memWrite_cpu_ok {s m : State} {c : Cpu} {a : Word} {v : Byte} (h : c.opPc = s.cpu.opPc)
    (hm : s.memWrite a v = .ok m) :
    ({ s with cpu := c } : State).memWrite a v = .ok { m with cpu := c } := by
  rw [State.memWrite_cpu s c a v h, hm]
  rfl

/-! ## When a store goes through -/

theorem word16_toNat (hi lo : Byte) : (word16 hi lo).toNat = hi.toNat * 256 + lo.toNat := by
  have h1 := hi.isLt
  have h2 := lo.isLt
  simp only [word16, BitVec.toNat_append]
  rw [← Nat.shiftLeft_add_eq_or_of_lt h2, Nat.shiftLeft_eq]

/-- Each of the 160 source bytes of an OAM DMA is in the RAM window exactly when the first is. -/
theorem inCartRam_dma (v : Byte) {k : Nat} (hk : k < 160) :
    inCartRam (word16 v 0 + BitVec.ofNat 16 k) = inCartRam (word16 v 0) := by
  have hv := v.isLt
  have h0 : (word16 v 0).toNat = v.toNat * 256 := by simp [word16_toNat]
  have h1 : (word16 v 0 + BitVec.ofNat 16 k).toNat = v.toNat * 256 + k := by
    rw [BitVec.toNat_add, h0, BitVec.toNat_ofNat]
    omega
  rw [Bool.eq_iff_iff, inCartRam_iff, inCartRam_iff, h0, h1]
  omega

theorem State.dmaCopy_ok {v : Byte} {n : Nat} (hn : n ≤ 160) {s : State}
    (h : s.readable (word16 v 0) = true) : ∃ t, State.dmaCopy (word16 v 0) n s = .ok t := by
  induction n generalizing s with
  | zero => exact ⟨s, rfl⟩
  | succ n ih =>
    have hr : s.readable (word16 v 0 + BitVec.ofNat 16 (160 - (n + 1))) = true := by
      simpa only [State.readable, inCartRam_dma v (show 160 - (n + 1) < 160 by omega)] using h
    obtain ⟨b, hb⟩ := State.memRead_ok hr
    simp only [State.dmaCopy, hb]
    exact ih (by omega) h

/-- A copy is refused at its first byte, or not at all. -/
theorem State.dmaCopy_error {v : Byte} {n : Nat} (hn : n ≤ 160) {s : State} {f : Fault}
    (h : State.dmaCopy (word16 v 0) n s = .error f) :
    inCartRam (word16 v 0) = true ∧ ∃ r, s.Refuses r ∧ f = s.stop r := by
  cases hr : s.readable (word16 v 0) with
  | true =>
    obtain ⟨t, ht⟩ := State.dmaCopy_ok hn hr
    rw [ht] at h
    cases h
  | false =>
    cases n with
    | zero => cases h
    | succ n =>
      have hk := inCartRam_dma v (show 160 - (n + 1) < 160 by omega)
      obtain ⟨e, he⟩ := State.memRead_refused (s := s)
        (a := word16 v 0 + BitVec.ofNat 16 (160 - (n + 1))) (by
          rw [State.readable, hk]
          exact hr)
      obtain ⟨h1, h2⟩ := State.memRead_error he
      simp only [State.dmaCopy, he, Except.error.injEq] at h
      exact ⟨hk ▸ h1, e, h2, h.symm⟩

/-- What a store that goes through has reached. -/
theorem State.memWrite_ok {s : State} {a : Word} {v : Byte} (h : s.storable a v = true) :
    ∃ m, s.memWrite a v = .ok m := by
  unfold State.memWrite
  split
  · exact ⟨_, rfl⟩
  split
  · exact ⟨_, rfl⟩
  split
  · have ha : inCartRam a = true := (inCartRam_iff a).mpr (by omega)
    have hm : s.cart.mbc.allowsRam = true := by simpa [State.storable, ha] using h
    obtain ⟨d, hd⟩ := Cart.ramWrite_ok (c := s.cart) a.toNat v hm
    exact ⟨{ s with cart := d }, by simp [State.cartRamWrite, hd, State.orRaise]⟩
  split
  · exact ⟨_, rfl⟩
  split
  · exact ⟨_, rfl⟩
  split
  · exact ⟨_, rfl⟩
  split
  · exact ⟨_, rfl⟩
  split
  · unfold State.ioWrite
    split
    · next ha =>
      have ha' : a = 0xFF46#16 := BitVec.eq_of_toNat_eq ha
      refine State.dmaCopy_ok (Nat.le_refl 160) ?_
      subst ha'
      cases hm : s.cart.mbc.allowsRam <;> simp_all [State.storable, State.readable]
    · exact ⟨_, rfl⟩
  split
  · exact ⟨_, rfl⟩
  · exact ⟨_, rfl⟩

/-- A store is refused only where `State.storable` says so, by an MBC3; what it leaves is the state it was
made in, with DMA written where the refused access was the copy's. -/
theorem State.memWrite_error {s : State} {a : Word} {v : Byte} {f : Fault}
    (h : s.memWrite a v = .error f) :
    (inCartRam a = true ∨ a = 0xFF46 ∧ inCartRam (word16 v 0) = true)
      ∧ ∃ r, s.Refuses r
        ∧ f = (if a = 0xFF46 then { s with io := { s.io with dma := v } } else s).stop r := by
  unfold State.memWrite at h
  split at h
  · cases h
  split at h
  · cases h
  split at h
  · next h1 h2 h3 =>
    refine ⟨.inl ((inCartRam_iff a).mpr (by omega)), ?_⟩
    unfold State.cartRamWrite at h
    split at h
    · cases h
    · next e he =>
      obtain ⟨e', he', rfl⟩ := State.orRaise_error he
      refine ⟨_, State.refuses_of_ramBank (Cart.ramWrite_error he'), ?_⟩
      have hne : a ≠ 0xFF46 := fun hc => by
        rw [hc] at h3
        exact absurd h3 (by decide)
      rw [if_neg hne]
      simpa using h.symm
  split at h
  · cases h
  split at h
  · cases h
  split at h
  · cases h
  split at h
  · cases h
  split at h
  · unfold State.ioWrite at h
    split at h
    · next ha =>
      have ha' : a = 0xFF46 := BitVec.eq_of_toNat_eq ha
      obtain ⟨h1, r, ⟨bank, sel, h2⟩, h3⟩ := State.dmaCopy_error (Nat.le_refl 160) h
      exact ⟨.inr ⟨ha', h1⟩, r, ⟨bank, sel, h2⟩, by rw [if_pos ha']; exact h3⟩
    · cases h
  split at h <;> cases h

/-- What a fault of an access in `s` is: a refusal's record, which the state left holds. -/
structure State.Faults (s : State) (f : Fault) : Prop where
  refuses : s.Refuses f.record
  recorded : f.left.fault = some f.record

theorem State.Refuses.faults {s t : State} {r : FaultRecord} (h : s.Refuses r) : s.Faults (t.stop r) :=
  ⟨by rwa [State.stop_record], by rw [State.stop_left, State.stop_record]⟩

theorem State.memWrite_faults {s : State} {a : Word} {v : Byte} {f : Fault}
    (h : s.memWrite a v = .error f) : s.Faults f := by
  obtain ⟨-, r, hr, rfl⟩ := State.memWrite_error h
  exact hr.faults

theorem State.load_faults {s : State} {a : Word} {f : Fault} (h : s.load a = .error f) : s.Faults f := by
  obtain ⟨r, hr, rfl⟩ := State.load_error.mp h
  exact (State.memRead_error hr).2.faults

/-- An MBC3 that refuses an access does not allow the RAM window. -/
theorem State.Refuses.not_allows {s : State} {r : FaultRecord} (h : s.Refuses r) :
    s.cart.mbc.allowsRam = false := by
  obtain ⟨bank, sel, hm, hs, -⟩ := h
  simp only [hm, Mbc.allowsRam, Bool.not_true, Bool.false_or, decide_eq_false_iff_not]
  omega

/-! ## A store next to another -/

theorem Mbc.control_hasRam4 (m : Mbc) (a : Nat) (v : Byte) : (m.control a v).hasRam4 = m.hasRam4 := by
  cases m <;> simp only [Mbc.control] <;> repeat' split
  all_goals rfl

theorem Mbc.control_romOnly (m : Mbc) (a : Nat) (v : Byte) :
    (m.control a v = .romOnly) ↔ (m = .romOnly) := by
  cases m <;> simp only [Mbc.control] <;> repeat' split
  all_goals simp

/-- A store outside ROM leaves the controller. -/
theorem State.memWrite_mbc_same {s m : State} {a : Word} {v : Byte} (h : s.memWrite a v = .ok m)
    (ha : ¬a.toNat ≤ 0x7FFF) : m.cart.mbc = s.cart.mbc := by
  rw [State.memWrite, if_neg ha] at h
  split at h
  · simp only [Except.ok.injEq] at h; subst h; rfl
  split at h
  · obtain ⟨d, hd, rfl⟩ := State.cartRamWrite_ok h
    show d.mbc = s.cart.mbc
    rw [Cart.ramWrite_frame hd]
  split at h
  · simp only [Except.ok.injEq] at h; subst h; rfl
  split at h
  · simp only [Except.ok.injEq] at h; subst h; rfl
  split at h
  · simp only [Except.ok.injEq] at h; subst h; rfl
  split at h
  · simp only [Except.ok.injEq] at h; subst h; rfl
  split at h
  · unfold State.ioWrite at h
    split at h
    · exact congrArg (·.cart.mbc) (State.dmaCopy_array h)
    · simp only [Except.ok.injEq] at h
      subst h
      unfold State.ioStore
      split <;> rfl
  split at h <;> (simp only [Except.ok.injEq] at h; subst h; rfl)

/-- Only a bank-control write changes the controller. -/
theorem State.memWrite_mbc {s m : State} {a : Word} {v : Byte} (h : s.memWrite a v = .ok m) :
    m.cart.mbc = if a.toNat ≤ 0x7FFF then s.cart.mbc.control a.toNat v else s.cart.mbc := by
  split
  · next ha =>
    rw [State.memWrite, if_pos ha] at h
    simp only [Except.ok.injEq] at h
    subst h
    rfl
  · next ha => exact State.memWrite_mbc_same h ha

theorem storeReach_control (m : Mbc) (x : Nat) (v : Byte) (a b : Word) :
    storeReach (m.control x v) a b = storeReach m a b := by
  have h : ((m.control x v) != .romOnly) = (m != .romOnly) := by
    rw [Bool.eq_iff_iff]
    simp [Mbc.control_romOnly]
  simp only [storeReach, Mbc.control_hasRam4, h]

/-- A store leaves what the next one can reach. -/
theorem State.memWrite_storeReach {s m : State} {x : Word} {v : Byte} (h : s.memWrite x v = .ok m)
    (a b : Word) : storeReach m.cart.mbc a b = storeReach s.cart.mbc a b := by
  rw [State.memWrite_mbc h]
  split
  · exact storeReach_control _ _ _ a b
  · rfl

/-- The word after an address. -/
theorem toNat_succ (a : Word) : (a + 1).toNat = (a.toNat + 1) % 65536 := by
  rw [BitVec.toNat_add]
  rfl

/-- The word before an address. -/
theorem toNat_pred (a : Word) : (a - 1).toNat = (a.toNat + 65535) % 65536 := by
  rw [BitVec.toNat_sub]
  simp only [BitVec.reduceToNat]
  omega

/-- A bank-control write never stands between a store and the next address: neither neighbour of an
address below 0x8000 is in the RAM window, or the DMA register. -/
theorem State.storable_next {s m : State} {a b : Word} {v w : Byte} (h : s.memWrite a v = .ok m)
    (hab : b = a + 1 ∨ b = a - 1) (hb : s.storable b w = true) : m.storable b w = true := by
  have hm := State.memWrite_mbc h
  by_cases ha : a.toNat ≤ 0x7FFF
  · have hl := a.isLt
    have hn : ¬(0xA000 ≤ b.toNat ∧ b.toNat ≤ 0xBFFF) ∧ b.toNat ≠ 0xFF46 := by
      rcases hab with rfl | rfl
      · rw [toNat_succ]; omega
      · rw [toNat_pred]; omega
    have h1 : inCartRam b = false := by
      rw [Bool.eq_false_iff]
      exact fun hc => hn.1 ((inCartRam_iff b).mp hc)
    have h2 : (b == 0xFF46#16) = false := by
      rw [Bool.eq_false_iff]
      intro hc
      exact hn.2 (by rw [beq_iff_eq.mp hc]; rfl)
    simp [State.storable, h1, h2]
  · rw [if_neg ha] at hm
    simpa only [State.storable, hm] using hb

/-! ## The stack -/

/-- What a push that goes through has done: two stores, and SP lowered by 2. -/
theorem State.push16_ok_iff {s t : State} {v : Word} :
    s.push16 v = .ok t ↔ ∃ m₁ m₂, s.memWrite (s.cpu.sp - 1) (hiByte v) = .ok m₁
      ∧ m₁.memWrite (s.cpu.sp - 2) (loByte v) = .ok m₂ ∧ t = m₂.setSp (s.cpu.sp - 2) := by
  have hsp : s.cpu.sp - 1 - 1 = s.cpu.sp - 2 := by
    rw [BitVec.sub_sub]; rfl
  unfold State.push16
  rw [show s.setSp (s.cpu.sp - 1) = { s with cpu := (s.setSp (s.cpu.sp - 1)).cpu } from rfl,
    State.memWrite_cpu s _ _ _ (by rfl)]
  cases h1 : s.memWrite (s.cpu.sp - 1) (hiByte v) with
  | error r => simp [withCpu]
  | ok m₁ =>
    have hc : m₁.cpu = s.cpu := (State.memWrite_storeFrame h1).cpu
    simp only [withCpu, Except.ok.injEq, exists_and_left, exists_eq_left']
    show State.memWrite { m₁ with cpu := { s.cpu with sp := s.cpu.sp - 1 - 1 } } (s.cpu.sp - 1 - 1)
      (loByte v) = .ok t ↔ _
    rw [hsp, State.memWrite_cpu m₁ _ _ _ (by rw [hc])]
    cases h2 : m₁.memWrite (s.cpu.sp - 2) (loByte v) with
    | error r => simp [withCpu]
    | ok m₂ =>
      have hc2 : m₂.cpu = m₁.cpu := (State.memWrite_storeFrame h2).cpu
      simp only [withCpu, Except.ok.injEq, exists_eq_left']
      constructor
      · intro h
        rw [← h, State.setSp, hc2, hc]
      · intro h
        rw [h, State.setSp, hc2, hc]

/-- A push whose two stores are allowed goes through. -/
theorem State.push16_ok {s : State} {v : Word} (h : s.storable16 (s.cpu.sp - 2) v = true) :
    ∃ t, s.push16 v = .ok t := by
  have hsp : s.cpu.sp - 2 + 1 = s.cpu.sp - 1 := by
    rw [BitVec.sub_eq_add_neg, BitVec.sub_eq_add_neg, BitVec.add_assoc]; rfl
  have hsp' : s.cpu.sp - 2 = s.cpu.sp - 1 - 1 := by
    rw [BitVec.sub_sub]; rfl
  simp only [State.storable16, Bool.and_eq_true, hsp] at h
  obtain ⟨m₁, h1⟩ := State.memWrite_ok h.2
  obtain ⟨m₂, h2⟩ := State.memWrite_ok (State.storable_next h1 (.inr hsp') h.1)
  exact ⟨_, State.push16_ok_iff.mpr ⟨m₁, m₂, h1, h2, rfl⟩⟩

/-- What a pop that goes through has done: two reads, and SP raised by 2. -/
theorem State.pop16_ok_iff {s t : State} {v : Word} :
    s.pop16 = .ok (v, t) ↔ ∃ lo hi, s.memRead s.cpu.sp = .ok lo ∧ s.memRead (s.cpu.sp + 1) = .ok hi
      ∧ v = word16 hi lo ∧ t = s.setSp (s.cpu.sp + 2) := by
  unfold State.pop16 State.load
  rw [State.memRead_setSp]
  cases h1 : s.memRead s.cpu.sp with
  | error r => simp
  | ok lo =>
    cases h2 : s.memRead (s.cpu.sp + 1) with
    | error r => simp
    | ok hi => simp [eq_comm]

/-- The store of a word that goes through: two stores, the low byte first. -/
theorem State.memWrite16_ok_iff {s t : State} {a v : Word} :
    s.memWrite16 a v = .ok t ↔
      ∃ m, s.memWrite a (loByte v) = .ok m ∧ m.memWrite (a + 1) (hiByte v) = .ok t := by
  unfold State.memWrite16
  cases s.memWrite a (loByte v) <;> simp

theorem State.memWrite16_ok {s : State} {a v : Word} (h : s.storable16 a v = true) :
    ∃ t, s.memWrite16 a v = .ok t := by
  simp only [State.storable16, Bool.and_eq_true] at h
  obtain ⟨m₁, h1⟩ := State.memWrite_ok h.1
  obtain ⟨m₂, h2⟩ := State.memWrite_ok (State.storable_next h1 (.inl rfl) h.2)
  exact ⟨m₂, State.memWrite16_ok_iff.mpr ⟨m₁, h1, h2⟩⟩

end Sys2Proof.Machine
end

