-- ==== Sys2Proof/Laws/Meanings.lean ====
section
/-! SUPPORT. Each operation an instruction family shares, as one statement of all it can do: the next
states it answers. A fault of one is a fault of its accesses. -/

namespace Sys2Proof.Machine

variable {s t : State}

/-! ## Loads, stores and stack transfers -/

theorem ldRegReg_next {dst r : Reg8} :
    ldRegReg dst r s = .next t ↔ t = (s.setReg dst (s.reg r)).setCycles 4 := done_next

theorem ldRegHl_next {dst : Reg8} :
    ldRegHl dst s = .next t ↔ ∃ v, s.memRead s.hl = .ok v ∧ t = (s.setReg dst v).setCycles 8 := by
  simp only [ldRegHl, State.readByte_next, done_next]

theorem ldHlReg_next {r : Reg8} :
    ldHlReg r s = .next t ↔ ∃ m, s.memWrite s.hl (s.reg r) = .ok m ∧ t = m.setCycles 8 := by
  simp only [ldHlReg, State.writeByte_next, done_next]

theorem ldRegImm_next {dst : Reg8} {n : Byte} :
    ldRegImm dst n s = .next t ↔ t = (s.setReg dst n).setCycles 8 := done_next

theorem ldHlImm_next {n : Byte} :
    ldHlImm n s = .next t ↔ ∃ m, s.memWrite s.hl n = .ok m ∧ t = m.setCycles 12 := by
  simp only [ldHlImm, State.writeByte_next, done_next]

theorem ldAIndPair_next {p : Pair} :
    ldAIndPair p s = .next t ↔ ∃ v, s.memRead (s.pair p) = .ok v ∧ t = (s.setReg .a v).setCycles 8 := by
  simp only [ldAIndPair, State.readByte_next, done_next]

theorem ldIndPairA_next {p : Pair} :
    ldIndPairA p s = .next t ↔ ∃ m, s.memWrite (s.pair p) s.cpu.a = .ok m ∧ t = m.setCycles 8 := by
  simp only [ldIndPairA, State.writeByte_next, done_next]

theorem ldAHlStep_next {delta : Word} :
    ldAHlStep delta s = .next t ↔ ∃ v, s.memRead s.hl = .ok v
      ∧ t = ((s.setReg .a v).setPair .hl (s.hl + delta)).setCycles 8 := by
  simp only [ldAHlStep, State.readByte_next, done_next]

theorem ldHlStepA_next {delta : Word} :
    ldHlStepA delta s = .next t ↔ ∃ m, s.memWrite s.hl s.cpu.a = .ok m
      ∧ t = (m.setPair .hl (m.hl + delta)).setCycles 8 := by
  simp only [ldHlStepA, State.writeByte_next, done_next]

theorem ldAAbs_next {n : Nat} {a : Word} :
    ldAAbs n a s = .next t ↔ ∃ v, s.memRead a = .ok v ∧ t = (s.setReg .a v).setCycles n := by
  simp only [ldAAbs, State.readByte_next, done_next]

theorem ldAbsA_next {n : Nat} {a : Word} :
    ldAbsA n a s = .next t ↔ ∃ m, s.memWrite a s.cpu.a = .ok m ∧ t = m.setCycles n := by
  simp only [ldAbsA, State.writeByte_next, done_next]

theorem ldPairImm_next {p : Pair} {n : Word} :
    ldPairImm p n s = .next t ↔ t = (s.setPair p n).setCycles 12 := done_next

theorem ldAbsSp_next {a : Word} :
    ldAbsSp a s = .next t ↔ ∃ m, s.memWrite16 a s.cpu.sp = .ok m ∧ t = m.setCycles 20 := by
  simp only [ldAbsSp, andThen_next, done_next]

theorem ldSpHl_next : ldSpHl s = .next t ↔ t = (s.setSp s.hl).setCycles 8 := done_next

theorem pushPair_next {p : StackPair} :
    pushPair p s = .next t ↔ ∃ m, s.push16 (s.stackPair p) = .ok m ∧ t = m.setCycles 16 := by
  simp only [pushPair, andThen_next, done_next]

theorem popPair_next {p : StackPair} :
    popPair p s = .next t ↔
      ∃ v m, s.pop16 = .ok (v, m) ∧ t = (m.setStackPair p v).setCycles 12 := by
  simp only [popPair, andThen_next, done_next, Prod.exists]

/-! ## 8-bit arithmetic -/

theorem aluReg_next {op : AluOp} {r : Reg8} :
    aluReg op r s = .next t ↔ t = (s.alu op (s.reg r)).setCycles 4 := done_next

theorem aluMem_next {op : AluOp} :
    aluMem op s = .next t ↔ ∃ v, s.memRead s.hl = .ok v ∧ t = (s.alu op v).setCycles 8 := by
  simp only [aluMem, State.readByte_next, done_next]

theorem aluImm_next {op : AluOp} {n : Byte} :
    aluImm op n s = .next t ↔ t = (s.alu op n).setCycles 8 := done_next

theorem incReg_next {dst : Reg8} :
    incReg dst s = .next t ↔ t = ((s.setReg dst (s.reg dst + 1)).incFlags (s.reg dst)).setCycles 4 := done_next

theorem decReg_next {dst : Reg8} :
    decReg dst s = .next t ↔ t = ((s.setReg dst (s.reg dst - 1)).decFlags (s.reg dst)).setCycles 4 := done_next

theorem incMem_next :
    incMem s = .next t ↔ ∃ v m, s.memRead s.hl = .ok v ∧ s.memWrite s.hl (v + 1) = .ok m
      ∧ t = (m.incFlags v).setCycles 12 := by
  simp only [incMem, State.readByte_next, State.writeByte_next, done_next, exists_and_left]

theorem decMem_next :
    decMem s = .next t ↔ ∃ v m, s.memRead s.hl = .ok v ∧ s.memWrite s.hl (v - 1) = .ok m
      ∧ t = (m.decFlags v).setCycles 12 := by
  simp only [decMem, State.readByte_next, State.writeByte_next, done_next, exists_and_left]

theorem adjustDecimal_next :
    adjustDecimal s = .next t ↔
      t = ((s.setReg .a (daa s.cpu.a s.flagN s.flagH s.flagC).1).setFlags
        ((daa s.cpu.a s.flagN s.flagH s.flagC).1 == 0) s.flagN false
        (daa s.cpu.a s.flagN s.flagH s.flagC).2).setCycles 4 := done_next

theorem complementA_next :
    complementA s = .next t ↔
      t = ((s.setReg .a (~~~s.cpu.a)).setFlags s.flagZ true true s.flagC).setCycles 4 := done_next

theorem writeCarry_next {c : Bool} :
    writeCarry c s = .next t ↔ t = (s.setFlags s.flagZ false false c).setCycles 4 := done_next

/-! ## 16-bit arithmetic -/

theorem stepPair_next {p : Pair} {delta : Word} :
    stepPair p delta s = .next t ↔ t = (s.setPair p (s.pair p + delta)).setCycles 8 := done_next

theorem addHl_next {p : Pair} :
    addHl p s = .next t ↔
      t = ((s.setPair .hl (add16 s.hl (s.pair p)).value).setFlags s.flagZ false
        (add16 s.hl (s.pair p)).half (add16 s.hl (s.pair p)).carry).setCycles 8 := done_next

theorem addSp_next {e : Byte} :
    addSp e s = .next t ↔
      t = ((s.setSp (spPlusE8 s.cpu.sp e).value).setFlags false false
        (spPlusE8 s.cpu.sp e).half (spPlusE8 s.cpu.sp e).carry).setCycles 16 := done_next

theorem ldHlSpPlus_next {e : Byte} :
    ldHlSpPlus e s = .next t ↔
      t = ((s.setPair .hl (spPlusE8 s.cpu.sp e).value).setFlags false false
        (spPlusE8 s.cpu.sp e).half (spPlusE8 s.cpu.sp e).carry).setCycles 12 := done_next

/-! ## Rotates, shifts and bit operations -/

theorem rotA_next {op : RotOp} :
    rotA op s = .next t ↔
      t = ((s.setReg .a (rotate op s.cpu.a s.flagC).1).setFlags false false false
        (rotate op s.cpu.a s.flagC).2).setCycles 4 := done_next

theorem rotReg_next {op : RotOp} {dst : Reg8} :
    rotReg op dst s = .next t ↔
      t = ((s.setReg dst (rotate op (s.reg dst) s.flagC).1).rotFlags
        (rotate op (s.reg dst) s.flagC)).setCycles 8 := done_next

theorem rotMem_next {op : RotOp} :
    rotMem op s = .next t ↔
      ∃ v m, s.memRead s.hl = .ok v ∧ s.memWrite s.hl (rotate op v s.flagC).1 = .ok m
        ∧ t = (m.rotFlags (rotate op v s.flagC)).setCycles 16 := by
  simp only [rotMem, State.readByte_next, State.writeByte_next, done_next, exists_and_left]

theorem testBitReg_next {b : Fin 8} {r : Reg8} :
    testBitReg b r s = .next t ↔ t = (s.bitFlags (s.reg r) b).setCycles 8 := done_next

theorem testBitMem_next {b : Fin 8} :
    testBitMem b s = .next t ↔
      ∃ v, s.memRead s.hl = .ok v ∧ t = (s.bitFlags v b).setCycles 12 := by
  simp only [testBitMem, State.readByte_next, done_next]

theorem resetBitReg_next {b : Fin 8} {dst : Reg8} :
    resetBitReg b dst s = .next t ↔ t = (s.setReg dst (clearBit (s.reg dst) b)).setCycles 8 := done_next

theorem resetBitMem_next {b : Fin 8} :
    resetBitMem b s = .next t ↔ ∃ v m, s.memRead s.hl = .ok v
      ∧ s.memWrite s.hl (clearBit v b) = .ok m ∧ t = m.setCycles 16 := by
  simp only [resetBitMem, State.readByte_next, State.writeByte_next, done_next, exists_and_left]

theorem setBitReg_next {b : Fin 8} {dst : Reg8} :
    setBitReg b dst s = .next t ↔ t = (s.setReg dst (putBit (s.reg dst) b)).setCycles 8 := done_next

theorem setBitMem_next {b : Fin 8} :
    setBitMem b s = .next t ↔ ∃ v m, s.memRead s.hl = .ok v
      ∧ s.memWrite s.hl (putBit v b) = .ok m ∧ t = m.setCycles 16 := by
  simp only [setBitMem, State.readByte_next, State.writeByte_next, done_next, exists_and_left]

/-! ## Jumps, calls and returns -/

theorem jump_next {n : Nat} {a : Word} :
    jump n a s = .next t ↔ t = (s.setPc a).setCycles n := done_next

theorem jumpIf_next {cc : Cond} {a : Word} :
    jumpIf cc a s = .next t ↔
      t = if s.cond cc then (s.setPc a).setCycles 16 else s.setCycles 12 := by
  unfold jumpIf
  split
  · exact jump_next
  · exact done_next

theorem jumpRelativeIf_next {cc : Cond} {e : Byte} :
    jumpRelativeIf cc e s = .next t ↔
      t = if s.cond cc then (s.setPc (s.relative e)).setCycles 12 else s.setCycles 8 := by
  unfold jumpRelativeIf
  split
  · exact jump_next
  · exact done_next

theorem callTo_next {n : Nat} {a : Word} :
    callTo n a s = .next t ↔ ∃ m, s.push16 s.cpu.pc = .ok m ∧ t = (m.setPc a).setCycles n := by
  simp only [callTo, andThen_next, done_next]

theorem callIf_next {cc : Cond} {a : Word} :
    callIf cc a s = .next t ↔ if s.cond cc = true
      then ∃ m, s.push16 s.cpu.pc = .ok m ∧ t = (m.setPc a).setCycles 24
      else t = s.setCycles 12 := by
  unfold callIf
  split
  · exact callTo_next
  · exact done_next

theorem State.popPc_ok_iff : s.popPc = .ok t ↔ ∃ v m, s.pop16 = .ok (v, m) ∧ t = m.setPc v := by
  unfold State.popPc
  cases s.pop16 with
  | error r => simp
  | ok p => simp [Prod.ext_iff, eq_comm]

theorem return16_next {n : Nat} :
    return16 n s = .next t ↔ ∃ v m, s.pop16 = .ok (v, m) ∧ t = (m.setPc v).setCycles n := by
  simp only [return16, andThen_next, done_next, State.popPc_ok_iff]
  constructor
  · rintro ⟨_, ⟨v, m, h, rfl⟩, rfl⟩
    exact ⟨v, m, h, rfl⟩
  · rintro ⟨v, m, h, rfl⟩
    exact ⟨_, ⟨v, m, h, rfl⟩, rfl⟩

theorem returnIf_next {cc : Cond} :
    returnIf cc s = .next t ↔ if s.cond cc = true
      then ∃ v m, s.pop16 = .ok (v, m) ∧ t = (m.setPc v).setCycles 20
      else t = s.setCycles 8 := by
  unfold returnIf
  split
  · exact return16_next
  · exact done_next

theorem returnAndEnable_next :
    returnAndEnable s = .next t ↔
      ∃ v m, s.pop16 = .ok (v, m) ∧ t = ((m.setPc v).setIme true false).setCycles 16 := by
  simp only [returnAndEnable, State.returnFromInterrupt, State.popPc, andThen_next, done_next]
  cases s.pop16 with
  | error r => simp
  | ok p => simp [Prod.ext_iff]

/-! ## System instructions -/

theorem doNothing_next : doNothing s = .next t ↔ t = s.setCycles 4 := done_next

theorem enterHalt_next :
    enterHalt s = .next t ↔ t = (if !s.cpu.ime && s.pending != 0 then s.setHaltBug true
      else s.setHalted true).setCycles 4 := by
  unfold enterHalt
  split <;> exact done_next

theorem stopOrSkip_next :
    stopOrSkip s = .next t ↔ s.params.stopMode = .nop2 ∧
      ∃ v, s.memRead s.cpu.pc = .ok v ∧ t = (s.setPc (s.cpu.pc + 1)).setCycles 4 := by
  unfold stopOrSkip
  cases s.params.stopMode with
  | fault => simp
  | nop2 => simp only [State.readByte_next, done_next, true_and]

theorem disableInterrupts_next :
    disableInterrupts s = .next t ↔ t = (s.setIme false false).setCycles 4 := done_next

theorem enableInterrupts_next :
    enableInterrupts s = .next t ↔ t = (if s.params.eiDelay then s.setIme s.cpu.ime true
      else s.setIme true s.cpu.imeScheduled).setCycles 4 := by
  unfold enableInterrupts
  split <;> exact done_next

theorem raiseDecodeError_next {op : Byte} : ¬raiseDecodeError op s = .next t := by
  simp [raiseDecodeError]

/-- A dispatch that goes through: the push, then the vector (60_exceptions.md R363). -/
theorem State.dispatch_next {i : Fin 8} :
    s.dispatch i = .next t ↔ ∃ m, (s.enterDispatch i).push16 s.returnAddress = .ok m
      ∧ t = (m.setPc (vector i)).setCycles 20 := by
  simp only [State.dispatch, andThen_next, done_next]
  rfl

end Sys2Proof.Machine
end

