-- ==== Sys2Proof/Laws/Effect.lean ====
section
/-! SUPPORT. What any instruction can do to the machine as a whole: the parts no instruction changes, the
invariants its stores keep, F's low nibble, the CPU's control bits, and the faults its accesses raise. -/

namespace Sys2Proof.Machine

/-- The CPU's control bits: IME, `ime_scheduled`, `halted`, `halt_bug`. -/
def Cpu.control (c : Cpu) : Bool × Bool × Bool × Bool := (c.ime, c.imeScheduled, c.halted, c.haltBug)

/-- What an instruction can do to the control bits. -/
inductive Cpu.Steers (eiDelay : Bool) (c d : Cpu) : Prop where
  | same (h : d.control = c.control)
  | halt (h : d.control = (c.ime, c.imeScheduled, true, c.haltBug))
  | bug (h : d.control = (c.ime, c.imeScheduled, c.halted, true))
  | di (h : d.control = (false, false, c.halted, c.haltBug))
  | eiLater (e : eiDelay = true) (h : d.control = (c.ime, true, c.halted, c.haltBug))
  | eiNow (h : d.control = (true, c.imeScheduled, c.halted, c.haltBug))
  | reti (h : d.control = (true, false, c.halted, c.haltBug))

/-- What an instruction that answers `t` has done to `s`. -/
structure State.Effect (s t : State) : Prop where
  frame : s.StoreFrame { t with cpu := s.cpu }
  kept : s.StoreInv → t.StoreInv
  flags : s.cpu.f &&& 0x0F = 0 → t.cpu.f &&& 0x0F = 0
  opPc : t.cpu.opPc = s.cpu.opPc
  control : Cpu.Steers s.params.eiDelay s.cpu t.cpu

/-- What an answer from `s` can be: a next state the effects allow, or a fault of an access. -/
structure State.Sound (s : State) (x : Result) : Prop where
  next : ∀ t, x = .next t → s.Effect t
  fault : ∀ f, x = .fault f → s.Faults f
  refused : ∀ q, x ≠ .refused q

/-! ## Building blocks -/

theorem masked_low (v : Byte) : v &&& 0xF0 &&& 0x0F = 0 := by
  rw [BitVec.and_assoc]
  exact BitVec.and_zero

/-- A change of the CPU alone. -/
theorem State.Effect.cpu {s : State} {c : Cpu} (hf : s.cpu.f &&& 0x0F = 0 → c.f &&& 0x0F = 0)
    (ho : c.opPc = s.cpu.opPc) (hc : Cpu.Steers s.params.eiDelay s.cpu c) :
    s.Effect { s with cpu := c } :=
  ⟨State.StoreFrame.refl s, fun h => ⟨h.statBits, h.ppu, h.bank, h.mem, h.ram, h.ram4⟩, hf, ho, hc⟩

/-- A store, then a change of the CPU alone. -/
theorem State.Effect.store {s m t : State} {a : Word} {v : Byte} (h : s.memWrite a v = .ok m)
    (e : m.Effect t) : s.Effect t := by
  have hs := State.memWrite_storeFrame h
  have hcpu := hs.cpu
  refine ⟨hs.trans ?_, fun k => e.kept (State.memWrite_storeInv h k), ?_, ?_, ?_⟩
  · have := e.frame
    rw [hcpu] at this
    exact this
  · rw [← hcpu]; exact e.flags
  · rw [← hcpu]; exact e.opPc
  · rw [← hcpu, ← hs.params]; exact e.control

theorem State.Sound.done {s t : State} {n : Nat} (h : s.Effect (t.setCycles n)) : s.Sound (done n t) :=
  ⟨fun u hu => by rw [done_next] at hu; exact hu ▸ h, fun r hr => by simp at hr,
    fun q hq => by simp at hq⟩

theorem State.Sound.readByte {s : State} {a : Word} {k : Byte → Result} (h : ∀ v, s.Sound (k v)) :
    s.Sound (s.readByte a k) := by
  refine ⟨fun t ht => ?_, fun r hr => ?_, fun q hq => ?_⟩
  · obtain ⟨v, -, hv⟩ := State.readByte_next.mp ht
    exact (h v).next t hv
  · rcases State.readByte_fault.mp hr with ⟨e, he, rfl⟩ | ⟨v, -, hv⟩
    · exact (State.memRead_error he).2.faults
    · exact (h v).fault r hv
  · obtain ⟨v, -, hv⟩ := State.readByte_refused.mp hq
    exact (h v).refused q hv

theorem State.Sound.writeByte {s : State} {a : Word} {v : Byte} {n : Nat} {f : State → State}
    (h : ∀ m, s.memWrite a v = .ok m → m.Effect ((f m).setCycles n)) :
    s.Sound (s.writeByte a v fun m => Machine.done n (f m)) := by
  refine ⟨fun t ht => ?_, fun r hr => ?_, fun q hq => ?_⟩
  · obtain ⟨m, hm, ht⟩ := State.writeByte_next.mp ht
    rw [done_next] at ht
    exact .store hm (ht ▸ h m hm)
  · rcases State.writeByte_fault.mp hr with he | ⟨m, -, hm⟩
    · exact State.memWrite_faults he
    · simp at hm
  · obtain ⟨m, -, hm⟩ := State.writeByte_refused.mp hq
    simp at hm

/-- After a store at an address, a store at a neighbour is refused only as it would have been before. -/
theorem State.memWrite_next_error {s m : State} {a b : Word} {v w : Byte} {f : Fault}
    (h : s.memWrite a v = .ok m) (hab : b = a + 1 ∨ b = a - 1) (hb : m.memWrite b w = .error f) :
    s.Faults f := by
  obtain ⟨⟨bank, sel, hm, hs, hr⟩, hrec⟩ := State.memWrite_faults hb
  have hw := (State.memWrite_error hb).1
  refine ⟨⟨bank, sel, ?_, hs, by rw [hr, (State.memWrite_storeFrame h).cpu]⟩, hrec⟩
  by_cases ha : a.toNat ≤ 0x7FFF
  · exfalso
    have hl := a.isLt
    have hn : ¬(0xA000 ≤ b.toNat ∧ b.toNat ≤ 0xBFFF) ∧ b.toNat ≠ 0xFF46 := by
      rcases hab with rfl | rfl
      · rw [toNat_succ]; omega
      · rw [toNat_pred]; omega
    rcases hw with hw | ⟨rfl, -⟩
    · exact hn.1 ((inCartRam_iff b).mp hw)
    · exact hn.2 rfl
  · rw [← State.memWrite_mbc_same h ha, hm]

theorem sub_two (a : Word) : a - 2 = a - 1 - 1 := by
  rw [BitVec.sub_sub]
  rfl

theorem State.Faults.withCpu {s : State} {f : Fault} (h : s.Faults f) (c : Cpu) :
    s.Faults (f.withCpu c) :=
  ⟨by rw [Fault.withCpu_record]; exact h.refuses, by
    rw [Fault.withCpu_left, Fault.withCpu_record]; exact h.recorded⟩

/-- A push is refused only by an access the machine refuses where it began. -/
theorem State.push16_error {s : State} {v : Word} {f : Fault} (h : s.push16 v = .error f) :
    s.Faults f := by
  unfold State.push16 at h
  rw [show s.setSp (s.cpu.sp - 1) = { s with cpu := (s.setSp (s.cpu.sp - 1)).cpu } from rfl,
    State.memWrite_cpu s _ _ _ (by rfl)] at h
  cases h1 : s.memWrite (s.cpu.sp - 1) (hiByte v) with
  | error e =>
    rw [h1] at h
    simp only [Machine.withCpu, Except.error.injEq] at h
    exact h ▸ (State.memWrite_faults h1).withCpu _
  | ok m =>
    rw [h1] at h
    have hc : m.cpu = s.cpu := (State.memWrite_storeFrame h1).cpu
    change State.memWrite { m with cpu := { s.cpu with sp := s.cpu.sp - 1 - 1 } } (s.cpu.sp - 1 - 1)
      (loByte v) = .error f at h
    rw [State.memWrite_cpu m _ _ _ (by rw [hc])] at h
    cases h2 : m.memWrite (s.cpu.sp - 1 - 1) (loByte v) with
    | ok u => rw [h2] at h; cases h
    | error e =>
      rw [h2] at h
      simp only [Machine.withCpu, Except.error.injEq] at h
      exact h ▸ (State.memWrite_next_error h1 (.inr rfl) h2).withCpu _

theorem State.pop16_error {s : State} {f : Fault} (h : s.pop16 = .error f) : s.Faults f := by
  unfold State.pop16 at h
  split at h
  · next e he =>
    obtain rfl : e = f := by simpa using h
    exact State.load_faults he
  · split at h
    · next e he =>
      obtain rfl : e = f := by simpa using h
      obtain ⟨r, hr, rfl⟩ := State.load_error.mp he
      rw [State.memRead_setSp] at hr
      exact (State.memRead_error hr).2.faults
    · cases h

/-- A push, then a change of the CPU alone. -/
theorem State.Effect.push {s m t : State} {v : Word} (h : s.push16 v = .ok m) (e : m.Effect t) :
    s.Effect t := by
  obtain ⟨m₁, m₂, h1, h2, rfl⟩ := State.push16_ok_iff.mp h
  refine .store h1 (.store h2 ?_)
  have f := e.frame
  refine ⟨⟨rfl, f.params, f.fault, f.joypad, f.boot, f.acc, f.frame, f.frameReady, f.coincidence, f.rom,
    f.romSize, f.romBankCount, f.ramSize, f.ramBankCount, f.remapZero, f.unusable⟩,
    fun k => e.kept ⟨k.statBits, k.ppu, k.bank, k.mem, k.ram, k.ram4⟩, e.flags, e.opPc, ?_⟩
  obtain h | h | h | h | ⟨he, h⟩ | h | h := e.control
  · exact .same h
  · exact .halt h
  · exact .bug h
  · exact .di h
  · exact .eiLater he h
  · exact .eiNow h
  · exact .reti h

theorem State.Sound.push {s : State} {v : Word} {n : Nat} {f : State → State}
    (h : ∀ m : State, m.Effect ((f m).setCycles n)) :
    s.Sound (andThen (s.push16 v) fun m => Machine.done n (f m)) := by
  refine ⟨fun t ht => ?_, fun r hr => ?_, fun q hq => ?_⟩
  · obtain ⟨m, hm, ht⟩ := andThen_next.mp ht
    rw [done_next] at ht
    exact .push hm (ht ▸ h m)
  · rcases andThen_fault.mp hr with he | ⟨m, -, hm⟩
    · exact State.push16_error he
    · simp at hm
  · obtain ⟨m, -, hm⟩ := andThen_refused.mp hq
    simp at hm

theorem State.Sound.pop {s : State} {n : Nat} {f : Word → State → State}
    (h : ∀ v, s.Effect ((f v (s.setSp (s.cpu.sp + 2))).setCycles n)) :
    s.Sound (andThen s.pop16 fun r => Machine.done n (f r.1 r.2)) := by
  refine ⟨fun t ht => ?_, fun r hr => ?_, fun q hq => ?_⟩
  · obtain ⟨⟨v, m⟩, hm, ht⟩ := andThen_next.mp ht
    obtain ⟨-, -, -, -, -, rfl⟩ := State.pop16_ok_iff.mp hm
    rw [done_next] at ht
    exact ht ▸ h v
  · rcases andThen_fault.mp hr with he | ⟨m, -, hm⟩
    · exact State.pop16_error he
    · simp at hm
  · obtain ⟨m, -, hm⟩ := andThen_refused.mp hq
    simp at hm

/-! ## The shared operations -/

section
variable (s : State)

theorem ldRegReg_sound (dst r : Reg8) : s.Sound (ldRegReg dst r s) := by
  refine .done (.cpu ?_ ?_ (.same ?_)) <;> cases dst <;> first | exact id | rfl

theorem ldRegImm_sound (dst : Reg8) (n : Byte) : s.Sound (ldRegImm dst n s) := by
  refine .done (.cpu ?_ ?_ (.same ?_)) <;> cases dst <;> first | exact id | rfl

theorem ldRegHl_sound (dst : Reg8) : s.Sound (ldRegHl dst s) := by
  refine .readByte fun v => .done (.cpu ?_ ?_ (.same ?_)) <;> cases dst <;> first | exact id | rfl

theorem ldAIndPair_sound (p : Pair) : s.Sound (ldAIndPair p s) :=
  .readByte fun _ => .done (.cpu id rfl (.same rfl))

theorem ldAAbs_sound (n : Nat) (a : Word) : s.Sound (ldAAbs n a s) :=
  .readByte fun _ => .done (.cpu id rfl (.same rfl))

theorem ldAHlStep_sound (delta : Word) : s.Sound (ldAHlStep delta s) :=
  .readByte fun _ => .done (.cpu id rfl (.same rfl))

theorem ldHlReg_sound (r : Reg8) : s.Sound (ldHlReg r s) :=
  .writeByte fun _ _ => .cpu id rfl (.same rfl)

theorem ldHlImm_sound (n : Byte) : s.Sound (ldHlImm n s) :=
  .writeByte fun _ _ => .cpu id rfl (.same rfl)

theorem ldIndPairA_sound (p : Pair) : s.Sound (ldIndPairA p s) :=
  .writeByte fun _ _ => .cpu id rfl (.same rfl)

theorem ldAbsA_sound (n : Nat) (a : Word) : s.Sound (ldAbsA n a s) :=
  .writeByte fun _ _ => .cpu id rfl (.same rfl)

theorem ldHlStepA_sound (delta : Word) : s.Sound (ldHlStepA delta s) :=
  .writeByte fun _ _ => .cpu id rfl (.same rfl)

theorem ldPairImm_sound (p : Pair) (n : Word) : s.Sound (ldPairImm p n s) := by
  refine .done ?_
  cases p <;> exact .cpu id rfl (.same rfl)

theorem ldSpHl_sound : s.Sound (ldSpHl s) := .done (.cpu id rfl (.same rfl))

theorem ldAbsSp_sound (a : Word) : s.Sound (ldAbsSp a s) := by
  refine ⟨fun t ht => ?_, fun r hr => ?_, fun q hq => ?_⟩
  · obtain ⟨m, hm, rfl⟩ := ldAbsSp_next.mp ht
    obtain ⟨m₁, h1, h2⟩ := State.memWrite16_ok_iff.mp hm
    exact .store h1 (.store h2 (.cpu id rfl (.same rfl)))
  · rcases andThen_fault.mp hr with he | ⟨m, -, hm⟩
    · unfold State.memWrite16 at he
      split at he
      · next m h1 => exact State.memWrite_next_error h1 (.inl rfl) he
      · next e h1 =>
        obtain rfl : e = r := by simpa using he
        exact State.memWrite_faults h1
    · simp at hm
  · obtain ⟨m, -, hm⟩ := andThen_refused.mp hq
    simp at hm

theorem pushPair_sound (p : StackPair) : s.Sound (pushPair p s) :=
  .push fun _ => .cpu id rfl (.same rfl)

theorem popPair_sound (p : StackPair) : s.Sound (popPair p s) := by
  refine .pop (f := fun v t => t.setStackPair p v) fun v => ?_
  cases p with
  | af => exact .cpu (fun _ => masked_low _) rfl (.same rfl)
  | bc => exact .cpu id rfl (.same rfl)
  | de => exact .cpu id rfl (.same rfl)
  | hl => exact .cpu id rfl (.same rfl)

theorem State.alu_effect (op : AluOp) (v : Byte) (n : Nat) : s.Effect ((s.alu op v).setCycles n) := by
  cases op <;> exact .cpu (fun _ => masked_low _) rfl (.same rfl)

theorem aluReg_sound (op : AluOp) (r : Reg8) : s.Sound (aluReg op r s) :=
  .done (State.alu_effect s op _ 4)

theorem aluImm_sound (op : AluOp) (n : Byte) : s.Sound (aluImm op n s) :=
  .done (State.alu_effect s op n 8)

theorem aluMem_sound (op : AluOp) : s.Sound (aluMem op s) :=
  .readByte fun v => .done (State.alu_effect s op v 8)

theorem incReg_sound (dst : Reg8) : s.Sound (incReg dst s) := by
  refine .done ?_
  cases dst <;> exact .cpu (fun _ => masked_low _) rfl (.same rfl)

theorem decReg_sound (dst : Reg8) : s.Sound (decReg dst s) := by
  refine .done ?_
  cases dst <;> exact .cpu (fun _ => masked_low _) rfl (.same rfl)

theorem incMem_sound : s.Sound (incMem s) :=
  .readByte fun _ => .writeByte fun _ _ => .cpu (fun _ => masked_low _) rfl (.same rfl)

theorem decMem_sound : s.Sound (decMem s) :=
  .readByte fun _ => .writeByte fun _ _ => .cpu (fun _ => masked_low _) rfl (.same rfl)

theorem adjustDecimal_sound : s.Sound (adjustDecimal s) :=
  .done (.cpu (fun _ => masked_low _) rfl (.same rfl))

theorem complementA_sound : s.Sound (complementA s) :=
  .done (.cpu (fun _ => masked_low _) rfl (.same rfl))

theorem writeCarry_sound (c : Bool) : s.Sound (writeCarry c s) :=
  .done (.cpu (fun _ => masked_low _) rfl (.same rfl))

theorem stepPair_sound (p : Pair) (delta : Word) : s.Sound (stepPair p delta s) := by
  refine .done ?_
  cases p <;> exact .cpu id rfl (.same rfl)

theorem addHl_sound (p : Pair) : s.Sound (addHl p s) :=
  .done (.cpu (fun _ => masked_low _) rfl (.same rfl))

theorem addSp_sound (e : Byte) : s.Sound (addSp e s) :=
  .done (.cpu (fun _ => masked_low _) rfl (.same rfl))

theorem ldHlSpPlus_sound (e : Byte) : s.Sound (ldHlSpPlus e s) :=
  .done (.cpu (fun _ => masked_low _) rfl (.same rfl))

theorem rotA_sound (op : RotOp) : s.Sound (rotA op s) :=
  .done (.cpu (fun _ => masked_low _) rfl (.same rfl))

theorem rotReg_sound (op : RotOp) (dst : Reg8) : s.Sound (rotReg op dst s) := by
  refine .done ?_
  cases dst <;> exact .cpu (fun _ => masked_low _) rfl (.same rfl)

theorem rotMem_sound (op : RotOp) : s.Sound (rotMem op s) :=
  .readByte fun _ => .writeByte fun _ _ => .cpu (fun _ => masked_low _) rfl (.same rfl)

theorem testBitReg_sound (b : Fin 8) (r : Reg8) : s.Sound (testBitReg b r s) :=
  .done (.cpu (fun _ => masked_low _) rfl (.same rfl))

theorem testBitMem_sound (b : Fin 8) : s.Sound (testBitMem b s) :=
  .readByte fun _ => .done (.cpu (fun _ => masked_low _) rfl (.same rfl))

theorem resetBitReg_sound (b : Fin 8) (dst : Reg8) : s.Sound (resetBitReg b dst s) := by
  refine .done ?_
  cases dst <;> exact .cpu id rfl (.same rfl)

theorem setBitReg_sound (b : Fin 8) (dst : Reg8) : s.Sound (setBitReg b dst s) := by
  refine .done ?_
  cases dst <;> exact .cpu id rfl (.same rfl)

theorem resetBitMem_sound (b : Fin 8) : s.Sound (resetBitMem b s) :=
  .readByte fun _ => .writeByte fun _ _ => .cpu id rfl (.same rfl)

theorem setBitMem_sound (b : Fin 8) : s.Sound (setBitMem b s) :=
  .readByte fun _ => .writeByte fun _ _ => .cpu id rfl (.same rfl)

theorem jump_sound (n : Nat) (a : Word) : s.Sound (jump n a s) := .done (.cpu id rfl (.same rfl))

theorem jumpIf_sound (cc : Cond) (a : Word) : s.Sound (jumpIf cc a s) := by
  unfold jumpIf
  split <;> exact .done (.cpu id rfl (.same rfl))

theorem jumpRelativeIf_sound (cc : Cond) (e : Byte) : s.Sound (jumpRelativeIf cc e s) := by
  unfold jumpRelativeIf
  split <;> exact .done (.cpu id rfl (.same rfl))

theorem callTo_sound (n : Nat) (a : Word) : s.Sound (callTo n a s) :=
  .push fun _ => .cpu id rfl (.same rfl)

theorem callIf_sound (cc : Cond) (a : Word) : s.Sound (callIf cc a s) := by
  unfold callIf
  split
  · exact callTo_sound s 24 a
  · exact .done (.cpu id rfl (.same rfl))

theorem return16_sound (n : Nat) : s.Sound (return16 n s) := by
  have h : return16 n s = andThen s.pop16 fun r => Machine.done n (r.2.setPc r.1) := by
    unfold return16 State.popPc
    cases s.pop16 <;> rfl
  rw [h]
  exact .pop (f := fun v t => t.setPc v) fun _ => .cpu id rfl (.same rfl)

theorem returnIf_sound (cc : Cond) : s.Sound (returnIf cc s) := by
  unfold returnIf
  split
  · exact return16_sound s 20
  · exact .done (.cpu id rfl (.same rfl))

theorem returnAndEnable_sound : s.Sound (returnAndEnable s) := by
  have h : returnAndEnable s
      = andThen s.pop16 fun r => Machine.done 16 ((r.2.setPc r.1).setIme true false) := by
    unfold returnAndEnable State.returnFromInterrupt State.popPc
    cases s.pop16 <;> rfl
  rw [h]
  exact .pop (f := fun v t => (t.setPc v).setIme true false) fun _ => .cpu id rfl (.reti rfl)

theorem doNothing_sound : s.Sound (doNothing s) := .done (.cpu id rfl (.same rfl))

theorem enterHalt_sound : s.Sound (enterHalt s) := by
  unfold enterHalt
  split
  · exact .done (.cpu id rfl (.bug rfl))
  · exact .done (.cpu id rfl (.halt rfl))

theorem disableInterrupts_sound : s.Sound (disableInterrupts s) := .done (.cpu id rfl (.di rfl))

theorem enableInterrupts_sound : s.Sound (enableInterrupts s) := by
  unfold enableInterrupts
  split
  · next h => exact .done (.cpu id rfl (.eiLater h rfl))
  · exact .done (.cpu id rfl (.eiNow rfl))

theorem runCb_sound (cbop : Byte) : s.Sound (runCb cbop s) := by
  unfold runCb
  split
  · exact rotReg_sound s _ _
  · exact rotMem_sound s _
  · exact testBitReg_sound s _ _
  · exact testBitMem_sound s _
  · exact resetBitReg_sound s _ _
  · exact resetBitMem_sound s _
  · exact setBitReg_sound s _ _
  · exact setBitMem_sound s _

end

/-- Where an instruction can stop the machine by itself: the eleven illegal opcodes, and STOP in its
Fault mode; the state is left as it is. -/
def State.StopsAt (s : State) (i : Instr) (f : Fault) : Prop :=
  (∃ op ∈ illegalOpcodes, i = decodeBytes op 0 0 ∧ f = s.stop (.decodeError op s.cpu.opPc))
    ∨ (i = .stop ∧ s.params.stopMode = .fault ∧ f = s.stop (.unmodelled .stop s.cpu.opPc))

/-- STOP. -/
theorem stopOrSkip_sound (s : State) :
    (∀ t, stopOrSkip s = .next t → s.Effect t)
      ∧ (∀ f, stopOrSkip s = .fault f → s.Faults f
          ∨ (s.params.stopMode = .fault ∧ f = s.stop (.unmodelled .stop s.cpu.opPc)))
      ∧ ∀ q, stopOrSkip s ≠ .refused q := by
  unfold stopOrSkip
  cases hm : s.params.stopMode with
  | fault => exact ⟨fun t ht => by simp at ht, fun r hr => .inr ⟨rfl, by simpa using hr.symm⟩, by simp⟩
  | nop2 =>
    have hs : s.Sound (s.readByte s.cpu.pc fun _ => done 4 (s.setPc (s.cpu.pc + 1))) :=
      .readByte fun _ => .done (.cpu id rfl (.same rfl))
    exact ⟨hs.next, fun r hr => .inl (hs.fault r hr), hs.refused⟩

end Sys2Proof.Machine
end

