-- ==== Sys2Proof/Laws/Exec.lean ====
section
/-! SUPPORT. What `exec` can answer, for every instruction: a next state that the effects allow, a fault of
an access the cartridge refuses, or the stop of an illegal opcode or of STOP; never a refusal. -/

namespace Sys2Proof.Machine

/-- What an answer to instruction `i` from `s` can be. -/
structure Answers (s : State) (i : Instr) (x : Result) : Prop where
  next : ∀ t, x = .next t → s.Effect t
  fault : ∀ f, x = .fault f → s.Faults f ∨ s.StopsAt i f
  refused : ∀ q, x ≠ .refused q

theorem State.Sound.answers {s : State} {i : Instr} {x : Result} (h : s.Sound x) : Answers s i x :=
  ⟨h.next, fun r hr => .inl (h.fault r hr), h.refused⟩

theorem Answers.illegal {s : State} {i : Instr} {op : Byte} (h : op ∈ illegalOpcodes)
    (hi : i = decodeBytes op 0 0) : Answers s i (raiseDecodeError op s) :=
  ⟨fun t ht => absurd ht raiseDecodeError_next,
    fun r hr => .inr (.inl ⟨op, h, hi, by simpa [raiseDecodeError] using hr.symm⟩),
    fun q hq => by simp [raiseDecodeError] at hq⟩

theorem Answers.stop (s : State) : Answers s .stop (stopOrSkip s) :=
  have h := stopOrSkip_sound s
  ⟨h.1, fun r hr => (h.2.1 r hr).imp id fun k => .inr ⟨rfl, k⟩, h.2.2⟩

/-- What `exec` can answer. -/
theorem exec_answers (i : Instr) (s : State) : Answers s i (exec i s) :=
  match i with
  | .ldBcN16 _ => (ldPairImm_sound s _ _).answers
  | .ldBN8 _ => (ldRegImm_sound s _ _).answers
  | .ldIndA16Sp _ => (ldAbsSp_sound s _).answers
  | .ldCN8 _ => (ldRegImm_sound s _ _).answers
  | .ldDeN16 _ => (ldPairImm_sound s _ _).answers
  | .ldDN8 _ => (ldRegImm_sound s _ _).answers
  | .jrE8 _ => (jump_sound s _ _).answers
  | .ldEN8 _ => (ldRegImm_sound s _ _).answers
  | .jrNzE8 _ => (jumpRelativeIf_sound s _ _).answers
  | .ldHlN16 _ => (ldPairImm_sound s _ _).answers
  | .ldHN8 _ => (ldRegImm_sound s _ _).answers
  | .jrZE8 _ => (jumpRelativeIf_sound s _ _).answers
  | .ldLN8 _ => (ldRegImm_sound s _ _).answers
  | .jrNcE8 _ => (jumpRelativeIf_sound s _ _).answers
  | .ldSpN16 _ => (ldPairImm_sound s _ _).answers
  | .ldIndHlN8 _ => (ldHlImm_sound s _).answers
  | .jrCE8 _ => (jumpRelativeIf_sound s _ _).answers
  | .ldAN8 _ => (ldRegImm_sound s _ _).answers
  | .jpNzA16 _ => (jumpIf_sound s _ _).answers
  | .jpA16 _ => (jump_sound s _ _).answers
  | .callNzA16 _ => (callIf_sound s _ _).answers
  | .addAN8 _ => (aluImm_sound s _ _).answers
  | .jpZA16 _ => (jumpIf_sound s _ _).answers
  | .prefixCb _ => (runCb_sound s _).answers
  | .callZA16 _ => (callIf_sound s _ _).answers
  | .callA16 _ => (callTo_sound s _ _).answers
  | .adcAN8 _ => (aluImm_sound s _ _).answers
  | .jpNcA16 _ => (jumpIf_sound s _ _).answers
  | .callNcA16 _ => (callIf_sound s _ _).answers
  | .subAN8 _ => (aluImm_sound s _ _).answers
  | .jpCA16 _ => (jumpIf_sound s _ _).answers
  | .callCA16 _ => (callIf_sound s _ _).answers
  | .sbcAN8 _ => (aluImm_sound s _ _).answers
  | .ldhIndA8A _ => (ldAbsA_sound s _ _).answers
  | .andAN8 _ => (aluImm_sound s _ _).answers
  | .addSpE8 _ => (addSp_sound s _).answers
  | .ldIndA16A _ => (ldAbsA_sound s _ _).answers
  | .xorAN8 _ => (aluImm_sound s _ _).answers
  | .ldhAIndA8 _ => (ldAAbs_sound s _ _).answers
  | .orAN8 _ => (aluImm_sound s _ _).answers
  | .ldHlSpE8 _ => (ldHlSpPlus_sound s _).answers
  | .ldAIndA16 _ => (ldAAbs_sound s _ _).answers
  | .cpAN8 _ => (aluImm_sound s _ _).answers
  | .nop => (doNothing_sound s).answers
  | .ldIndBcA => (ldIndPairA_sound s _).answers
  | .incBc => (stepPair_sound s _ _).answers
  | .incB => (incReg_sound s _).answers
  | .decB => (decReg_sound s _).answers
  | .rlca => (rotA_sound s _).answers
  | .addHlBc => (addHl_sound s _).answers
  | .ldAIndBc => (ldAIndPair_sound s _).answers
  | .decBc => (stepPair_sound s _ _).answers
  | .incC => (incReg_sound s _).answers
  | .decC => (decReg_sound s _).answers
  | .rrca => (rotA_sound s _).answers
  | .stop => Answers.stop s
  | .ldIndDeA => (ldIndPairA_sound s _).answers
  | .incDe => (stepPair_sound s _ _).answers
  | .incD => (incReg_sound s _).answers
  | .decD => (decReg_sound s _).answers
  | .rla => (rotA_sound s _).answers
  | .addHlDe => (addHl_sound s _).answers
  | .ldAIndDe => (ldAIndPair_sound s _).answers
  | .decDe => (stepPair_sound s _ _).answers
  | .incE => (incReg_sound s _).answers
  | .decE => (decReg_sound s _).answers
  | .rra => (rotA_sound s _).answers
  | .ldIndHliA => (ldHlStepA_sound s _).answers
  | .incHl => (stepPair_sound s _ _).answers
  | .incH => (incReg_sound s _).answers
  | .decH => (decReg_sound s _).answers
  | .daa => (adjustDecimal_sound s).answers
  | .addHlHl => (addHl_sound s _).answers
  | .ldAIndHli => (ldAHlStep_sound s _).answers
  | .decHl => (stepPair_sound s _ _).answers
  | .incL => (incReg_sound s _).answers
  | .decL => (decReg_sound s _).answers
  | .cpl => (complementA_sound s).answers
  | .ldIndHldA => (ldHlStepA_sound s _).answers
  | .incSp => (stepPair_sound s _ _).answers
  | .incIndHl => (incMem_sound s).answers
  | .decIndHl => (decMem_sound s).answers
  | .scf => (writeCarry_sound s _).answers
  | .addHlSp => (addHl_sound s _).answers
  | .ldAIndHld => (ldAHlStep_sound s _).answers
  | .decSp => (stepPair_sound s _ _).answers
  | .incA => (incReg_sound s _).answers
  | .decA => (decReg_sound s _).answers
  | .ccf => (writeCarry_sound s _).answers
  | .ldBB => (ldRegReg_sound s _ _).answers
  | .ldBC => (ldRegReg_sound s _ _).answers
  | .ldBD => (ldRegReg_sound s _ _).answers
  | .ldBE => (ldRegReg_sound s _ _).answers
  | .ldBH => (ldRegReg_sound s _ _).answers
  | .ldBL => (ldRegReg_sound s _ _).answers
  | .ldBIndHl => (ldRegHl_sound s _).answers
  | .ldBA => (ldRegReg_sound s _ _).answers
  | .ldCB => (ldRegReg_sound s _ _).answers
  | .ldCC => (ldRegReg_sound s _ _).answers
  | .ldCD => (ldRegReg_sound s _ _).answers
  | .ldCE => (ldRegReg_sound s _ _).answers
  | .ldCH => (ldRegReg_sound s _ _).answers
  | .ldCL => (ldRegReg_sound s _ _).answers
  | .ldCIndHl => (ldRegHl_sound s _).answers
  | .ldCA => (ldRegReg_sound s _ _).answers
  | .ldDB => (ldRegReg_sound s _ _).answers
  | .ldDC => (ldRegReg_sound s _ _).answers
  | .ldDD => (ldRegReg_sound s _ _).answers
  | .ldDE => (ldRegReg_sound s _ _).answers
  | .ldDH => (ldRegReg_sound s _ _).answers
  | .ldDL => (ldRegReg_sound s _ _).answers
  | .ldDIndHl => (ldRegHl_sound s _).answers
  | .ldDA => (ldRegReg_sound s _ _).answers
  | .ldEB => (ldRegReg_sound s _ _).answers
  | .ldEC => (ldRegReg_sound s _ _).answers
  | .ldED => (ldRegReg_sound s _ _).answers
  | .ldEE => (ldRegReg_sound s _ _).answers
  | .ldEH => (ldRegReg_sound s _ _).answers
  | .ldEL => (ldRegReg_sound s _ _).answers
  | .ldEIndHl => (ldRegHl_sound s _).answers
  | .ldEA => (ldRegReg_sound s _ _).answers
  | .ldHB => (ldRegReg_sound s _ _).answers
  | .ldHC => (ldRegReg_sound s _ _).answers
  | .ldHD => (ldRegReg_sound s _ _).answers
  | .ldHE => (ldRegReg_sound s _ _).answers
  | .ldHH => (ldRegReg_sound s _ _).answers
  | .ldHL => (ldRegReg_sound s _ _).answers
  | .ldHIndHl => (ldRegHl_sound s _).answers
  | .ldHA => (ldRegReg_sound s _ _).answers
  | .ldLB => (ldRegReg_sound s _ _).answers
  | .ldLC => (ldRegReg_sound s _ _).answers
  | .ldLD => (ldRegReg_sound s _ _).answers
  | .ldLE => (ldRegReg_sound s _ _).answers
  | .ldLH => (ldRegReg_sound s _ _).answers
  | .ldLL => (ldRegReg_sound s _ _).answers
  | .ldLIndHl => (ldRegHl_sound s _).answers
  | .ldLA => (ldRegReg_sound s _ _).answers
  | .ldIndHlB => (ldHlReg_sound s _).answers
  | .ldIndHlC => (ldHlReg_sound s _).answers
  | .ldIndHlD => (ldHlReg_sound s _).answers
  | .ldIndHlE => (ldHlReg_sound s _).answers
  | .ldIndHlH => (ldHlReg_sound s _).answers
  | .ldIndHlL => (ldHlReg_sound s _).answers
  | .halt => (enterHalt_sound s).answers
  | .ldIndHlA => (ldHlReg_sound s _).answers
  | .ldAB => (ldRegReg_sound s _ _).answers
  | .ldAC => (ldRegReg_sound s _ _).answers
  | .ldAD => (ldRegReg_sound s _ _).answers
  | .ldAE => (ldRegReg_sound s _ _).answers
  | .ldAH => (ldRegReg_sound s _ _).answers
  | .ldAL => (ldRegReg_sound s _ _).answers
  | .ldAIndHl => (ldRegHl_sound s _).answers
  | .ldAA => (ldRegReg_sound s _ _).answers
  | .addAB => (aluReg_sound s _ _).answers
  | .addAC => (aluReg_sound s _ _).answers
  | .addAD => (aluReg_sound s _ _).answers
  | .addAE => (aluReg_sound s _ _).answers
  | .addAH => (aluReg_sound s _ _).answers
  | .addAL => (aluReg_sound s _ _).answers
  | .addAIndHl => (aluMem_sound s _).answers
  | .addAA => (aluReg_sound s _ _).answers
  | .adcAB => (aluReg_sound s _ _).answers
  | .adcAC => (aluReg_sound s _ _).answers
  | .adcAD => (aluReg_sound s _ _).answers
  | .adcAE => (aluReg_sound s _ _).answers
  | .adcAH => (aluReg_sound s _ _).answers
  | .adcAL => (aluReg_sound s _ _).answers
  | .adcAIndHl => (aluMem_sound s _).answers
  | .adcAA => (aluReg_sound s _ _).answers
  | .subAB => (aluReg_sound s _ _).answers
  | .subAC => (aluReg_sound s _ _).answers
  | .subAD => (aluReg_sound s _ _).answers
  | .subAE => (aluReg_sound s _ _).answers
  | .subAH => (aluReg_sound s _ _).answers
  | .subAL => (aluReg_sound s _ _).answers
  | .subAIndHl => (aluMem_sound s _).answers
  | .subAA => (aluReg_sound s _ _).answers
  | .sbcAB => (aluReg_sound s _ _).answers
  | .sbcAC => (aluReg_sound s _ _).answers
  | .sbcAD => (aluReg_sound s _ _).answers
  | .sbcAE => (aluReg_sound s _ _).answers
  | .sbcAH => (aluReg_sound s _ _).answers
  | .sbcAL => (aluReg_sound s _ _).answers
  | .sbcAIndHl => (aluMem_sound s _).answers
  | .sbcAA => (aluReg_sound s _ _).answers
  | .andAB => (aluReg_sound s _ _).answers
  | .andAC => (aluReg_sound s _ _).answers
  | .andAD => (aluReg_sound s _ _).answers
  | .andAE => (aluReg_sound s _ _).answers
  | .andAH => (aluReg_sound s _ _).answers
  | .andAL => (aluReg_sound s _ _).answers
  | .andAIndHl => (aluMem_sound s _).answers
  | .andAA => (aluReg_sound s _ _).answers
  | .xorAB => (aluReg_sound s _ _).answers
  | .xorAC => (aluReg_sound s _ _).answers
  | .xorAD => (aluReg_sound s _ _).answers
  | .xorAE => (aluReg_sound s _ _).answers
  | .xorAH => (aluReg_sound s _ _).answers
  | .xorAL => (aluReg_sound s _ _).answers
  | .xorAIndHl => (aluMem_sound s _).answers
  | .xorAA => (aluReg_sound s _ _).answers
  | .orAB => (aluReg_sound s _ _).answers
  | .orAC => (aluReg_sound s _ _).answers
  | .orAD => (aluReg_sound s _ _).answers
  | .orAE => (aluReg_sound s _ _).answers
  | .orAH => (aluReg_sound s _ _).answers
  | .orAL => (aluReg_sound s _ _).answers
  | .orAIndHl => (aluMem_sound s _).answers
  | .orAA => (aluReg_sound s _ _).answers
  | .cpAB => (aluReg_sound s _ _).answers
  | .cpAC => (aluReg_sound s _ _).answers
  | .cpAD => (aluReg_sound s _ _).answers
  | .cpAE => (aluReg_sound s _ _).answers
  | .cpAH => (aluReg_sound s _ _).answers
  | .cpAL => (aluReg_sound s _ _).answers
  | .cpAIndHl => (aluMem_sound s _).answers
  | .cpAA => (aluReg_sound s _ _).answers
  | .retNz => (returnIf_sound s _).answers
  | .popBc => (popPair_sound s _).answers
  | .pushBc => (pushPair_sound s _).answers
  | .rst00 => (callTo_sound s _ _).answers
  | .retZ => (returnIf_sound s _).answers
  | .ret => (return16_sound s _).answers
  | .rst08 => (callTo_sound s _ _).answers
  | .retNc => (returnIf_sound s _).answers
  | .popDe => (popPair_sound s _).answers
  | .illegalD3 => Answers.illegal (by decide) rfl
  | .pushDe => (pushPair_sound s _).answers
  | .rst10 => (callTo_sound s _ _).answers
  | .retC => (returnIf_sound s _).answers
  | .reti => (returnAndEnable_sound s).answers
  | .illegalDB => Answers.illegal (by decide) rfl
  | .illegalDD => Answers.illegal (by decide) rfl
  | .rst18 => (callTo_sound s _ _).answers
  | .popHl => (popPair_sound s _).answers
  | .ldhIndCA => (ldAbsA_sound s _ _).answers
  | .illegalE3 => Answers.illegal (by decide) rfl
  | .illegalE4 => Answers.illegal (by decide) rfl
  | .pushHl => (pushPair_sound s _).answers
  | .rst20 => (callTo_sound s _ _).answers
  | .jpHl => (jump_sound s _ _).answers
  | .illegalEB => Answers.illegal (by decide) rfl
  | .illegalEC => Answers.illegal (by decide) rfl
  | .illegalED => Answers.illegal (by decide) rfl
  | .rst28 => (callTo_sound s _ _).answers
  | .popAf => (popPair_sound s _).answers
  | .ldhAIndC => (ldAAbs_sound s _ _).answers
  | .di => (disableInterrupts_sound s).answers
  | .illegalF4 => Answers.illegal (by decide) rfl
  | .pushAf => (pushPair_sound s _).answers
  | .rst30 => (callTo_sound s _ _).answers
  | .ldSpHl => (ldSpHl_sound s).answers
  | .ei => (enableInterrupts_sound s).answers
  | .illegalFC => Answers.illegal (by decide) rfl
  | .illegalFD => Answers.illegal (by decide) rfl
  | .rst38 => (callTo_sound s _ _).answers
  | .cbRlcB => (rotReg_sound s _ _).answers
  | .cbRlcC => (rotReg_sound s _ _).answers
  | .cbRlcD => (rotReg_sound s _ _).answers
  | .cbRlcE => (rotReg_sound s _ _).answers
  | .cbRlcH => (rotReg_sound s _ _).answers
  | .cbRlcL => (rotReg_sound s _ _).answers
  | .cbRlcIndHl => (rotMem_sound s _).answers
  | .cbRlcA => (rotReg_sound s _ _).answers
  | .cbRrcB => (rotReg_sound s _ _).answers
  | .cbRrcC => (rotReg_sound s _ _).answers
  | .cbRrcD => (rotReg_sound s _ _).answers
  | .cbRrcE => (rotReg_sound s _ _).answers
  | .cbRrcH => (rotReg_sound s _ _).answers
  | .cbRrcL => (rotReg_sound s _ _).answers
  | .cbRrcIndHl => (rotMem_sound s _).answers
  | .cbRrcA => (rotReg_sound s _ _).answers
  | .cbRlB => (rotReg_sound s _ _).answers
  | .cbRlC => (rotReg_sound s _ _).answers
  | .cbRlD => (rotReg_sound s _ _).answers
  | .cbRlE => (rotReg_sound s _ _).answers
  | .cbRlH => (rotReg_sound s _ _).answers
  | .cbRlL => (rotReg_sound s _ _).answers
  | .cbRlIndHl => (rotMem_sound s _).answers
  | .cbRlA => (rotReg_sound s _ _).answers
  | .cbRrB => (rotReg_sound s _ _).answers
  | .cbRrC => (rotReg_sound s _ _).answers
  | .cbRrD => (rotReg_sound s _ _).answers
  | .cbRrE => (rotReg_sound s _ _).answers
  | .cbRrH => (rotReg_sound s _ _).answers
  | .cbRrL => (rotReg_sound s _ _).answers
  | .cbRrIndHl => (rotMem_sound s _).answers
  | .cbRrA => (rotReg_sound s _ _).answers
  | .cbSlaB => (rotReg_sound s _ _).answers
  | .cbSlaC => (rotReg_sound s _ _).answers
  | .cbSlaD => (rotReg_sound s _ _).answers
  | .cbSlaE => (rotReg_sound s _ _).answers
  | .cbSlaH => (rotReg_sound s _ _).answers
  | .cbSlaL => (rotReg_sound s _ _).answers
  | .cbSlaIndHl => (rotMem_sound s _).answers
  | .cbSlaA => (rotReg_sound s _ _).answers
  | .cbSraB => (rotReg_sound s _ _).answers
  | .cbSraC => (rotReg_sound s _ _).answers
  | .cbSraD => (rotReg_sound s _ _).answers
  | .cbSraE => (rotReg_sound s _ _).answers
  | .cbSraH => (rotReg_sound s _ _).answers
  | .cbSraL => (rotReg_sound s _ _).answers
  | .cbSraIndHl => (rotMem_sound s _).answers
  | .cbSraA => (rotReg_sound s _ _).answers
  | .cbSwapB => (rotReg_sound s _ _).answers
  | .cbSwapC => (rotReg_sound s _ _).answers
  | .cbSwapD => (rotReg_sound s _ _).answers
  | .cbSwapE => (rotReg_sound s _ _).answers
  | .cbSwapH => (rotReg_sound s _ _).answers
  | .cbSwapL => (rotReg_sound s _ _).answers
  | .cbSwapIndHl => (rotMem_sound s _).answers
  | .cbSwapA => (rotReg_sound s _ _).answers
  | .cbSrlB => (rotReg_sound s _ _).answers
  | .cbSrlC => (rotReg_sound s _ _).answers
  | .cbSrlD => (rotReg_sound s _ _).answers
  | .cbSrlE => (rotReg_sound s _ _).answers
  | .cbSrlH => (rotReg_sound s _ _).answers
  | .cbSrlL => (rotReg_sound s _ _).answers
  | .cbSrlIndHl => (rotMem_sound s _).answers
  | .cbSrlA => (rotReg_sound s _ _).answers
  | .bit0B => (testBitReg_sound s _ _).answers
  | .bit0C => (testBitReg_sound s _ _).answers
  | .bit0D => (testBitReg_sound s _ _).answers
  | .bit0E => (testBitReg_sound s _ _).answers
  | .bit0H => (testBitReg_sound s _ _).answers
  | .bit0L => (testBitReg_sound s _ _).answers
  | .bit0IndHl => (testBitMem_sound s _).answers
  | .bit0A => (testBitReg_sound s _ _).answers
  | .bit1B => (testBitReg_sound s _ _).answers
  | .bit1C => (testBitReg_sound s _ _).answers
  | .bit1D => (testBitReg_sound s _ _).answers
  | .bit1E => (testBitReg_sound s _ _).answers
  | .bit1H => (testBitReg_sound s _ _).answers
  | .bit1L => (testBitReg_sound s _ _).answers
  | .bit1IndHl => (testBitMem_sound s _).answers
  | .bit1A => (testBitReg_sound s _ _).answers
  | .bit2B => (testBitReg_sound s _ _).answers
  | .bit2C => (testBitReg_sound s _ _).answers
  | .bit2D => (testBitReg_sound s _ _).answers
  | .bit2E => (testBitReg_sound s _ _).answers
  | .bit2H => (testBitReg_sound s _ _).answers
  | .bit2L => (testBitReg_sound s _ _).answers
  | .bit2IndHl => (testBitMem_sound s _).answers
  | .bit2A => (testBitReg_sound s _ _).answers
  | .bit3B => (testBitReg_sound s _ _).answers
  | .bit3C => (testBitReg_sound s _ _).answers
  | .bit3D => (testBitReg_sound s _ _).answers
  | .bit3E => (testBitReg_sound s _ _).answers
  | .bit3H => (testBitReg_sound s _ _).answers
  | .bit3L => (testBitReg_sound s _ _).answers
  | .bit3IndHl => (testBitMem_sound s _).answers
  | .bit3A => (testBitReg_sound s _ _).answers
  | .bit4B => (testBitReg_sound s _ _).answers
  | .bit4C => (testBitReg_sound s _ _).answers
  | .bit4D => (testBitReg_sound s _ _).answers
  | .bit4E => (testBitReg_sound s _ _).answers
  | .bit4H => (testBitReg_sound s _ _).answers
  | .bit4L => (testBitReg_sound s _ _).answers
  | .bit4IndHl => (testBitMem_sound s _).answers
  | .bit4A => (testBitReg_sound s _ _).answers
  | .bit5B => (testBitReg_sound s _ _).answers
  | .bit5C => (testBitReg_sound s _ _).answers
  | .bit5D => (testBitReg_sound s _ _).answers
  | .bit5E => (testBitReg_sound s _ _).answers
  | .bit5H => (testBitReg_sound s _ _).answers
  | .bit5L => (testBitReg_sound s _ _).answers
  | .bit5IndHl => (testBitMem_sound s _).answers
  | .bit5A => (testBitReg_sound s _ _).answers
  | .bit6B => (testBitReg_sound s _ _).answers
  | .bit6C => (testBitReg_sound s _ _).answers
  | .bit6D => (testBitReg_sound s _ _).answers
  | .bit6E => (testBitReg_sound s _ _).answers
  | .bit6H => (testBitReg_sound s _ _).answers
  | .bit6L => (testBitReg_sound s _ _).answers
  | .bit6IndHl => (testBitMem_sound s _).answers
  | .bit6A => (testBitReg_sound s _ _).answers
  | .bit7B => (testBitReg_sound s _ _).answers
  | .bit7C => (testBitReg_sound s _ _).answers
  | .bit7D => (testBitReg_sound s _ _).answers
  | .bit7E => (testBitReg_sound s _ _).answers
  | .bit7H => (testBitReg_sound s _ _).answers
  | .bit7L => (testBitReg_sound s _ _).answers
  | .bit7IndHl => (testBitMem_sound s _).answers
  | .bit7A => (testBitReg_sound s _ _).answers
  | .res0B => (resetBitReg_sound s _ _).answers
  | .res0C => (resetBitReg_sound s _ _).answers
  | .res0D => (resetBitReg_sound s _ _).answers
  | .res0E => (resetBitReg_sound s _ _).answers
  | .res0H => (resetBitReg_sound s _ _).answers
  | .res0L => (resetBitReg_sound s _ _).answers
  | .res0IndHl => (resetBitMem_sound s _).answers
  | .res0A => (resetBitReg_sound s _ _).answers
  | .res1B => (resetBitReg_sound s _ _).answers
  | .res1C => (resetBitReg_sound s _ _).answers
  | .res1D => (resetBitReg_sound s _ _).answers
  | .res1E => (resetBitReg_sound s _ _).answers
  | .res1H => (resetBitReg_sound s _ _).answers
  | .res1L => (resetBitReg_sound s _ _).answers
  | .res1IndHl => (resetBitMem_sound s _).answers
  | .res1A => (resetBitReg_sound s _ _).answers
  | .res2B => (resetBitReg_sound s _ _).answers
  | .res2C => (resetBitReg_sound s _ _).answers
  | .res2D => (resetBitReg_sound s _ _).answers
  | .res2E => (resetBitReg_sound s _ _).answers
  | .res2H => (resetBitReg_sound s _ _).answers
  | .res2L => (resetBitReg_sound s _ _).answers
  | .res2IndHl => (resetBitMem_sound s _).answers
  | .res2A => (resetBitReg_sound s _ _).answers
  | .res3B => (resetBitReg_sound s _ _).answers
  | .res3C => (resetBitReg_sound s _ _).answers
  | .res3D => (resetBitReg_sound s _ _).answers
  | .res3E => (resetBitReg_sound s _ _).answers
  | .res3H => (resetBitReg_sound s _ _).answers
  | .res3L => (resetBitReg_sound s _ _).answers
  | .res3IndHl => (resetBitMem_sound s _).answers
  | .res3A => (resetBitReg_sound s _ _).answers
  | .res4B => (resetBitReg_sound s _ _).answers
  | .res4C => (resetBitReg_sound s _ _).answers
  | .res4D => (resetBitReg_sound s _ _).answers
  | .res4E => (resetBitReg_sound s _ _).answers
  | .res4H => (resetBitReg_sound s _ _).answers
  | .res4L => (resetBitReg_sound s _ _).answers
  | .res4IndHl => (resetBitMem_sound s _).answers
  | .res4A => (resetBitReg_sound s _ _).answers
  | .res5B => (resetBitReg_sound s _ _).answers
  | .res5C => (resetBitReg_sound s _ _).answers
  | .res5D => (resetBitReg_sound s _ _).answers
  | .res5E => (resetBitReg_sound s _ _).answers
  | .res5H => (resetBitReg_sound s _ _).answers
  | .res5L => (resetBitReg_sound s _ _).answers
  | .res5IndHl => (resetBitMem_sound s _).answers
  | .res5A => (resetBitReg_sound s _ _).answers
  | .res6B => (resetBitReg_sound s _ _).answers
  | .res6C => (resetBitReg_sound s _ _).answers
  | .res6D => (resetBitReg_sound s _ _).answers
  | .res6E => (resetBitReg_sound s _ _).answers
  | .res6H => (resetBitReg_sound s _ _).answers
  | .res6L => (resetBitReg_sound s _ _).answers
  | .res6IndHl => (resetBitMem_sound s _).answers
  | .res6A => (resetBitReg_sound s _ _).answers
  | .res7B => (resetBitReg_sound s _ _).answers
  | .res7C => (resetBitReg_sound s _ _).answers
  | .res7D => (resetBitReg_sound s _ _).answers
  | .res7E => (resetBitReg_sound s _ _).answers
  | .res7H => (resetBitReg_sound s _ _).answers
  | .res7L => (resetBitReg_sound s _ _).answers
  | .res7IndHl => (resetBitMem_sound s _).answers
  | .res7A => (resetBitReg_sound s _ _).answers
  | .set0B => (setBitReg_sound s _ _).answers
  | .set0C => (setBitReg_sound s _ _).answers
  | .set0D => (setBitReg_sound s _ _).answers
  | .set0E => (setBitReg_sound s _ _).answers
  | .set0H => (setBitReg_sound s _ _).answers
  | .set0L => (setBitReg_sound s _ _).answers
  | .set0IndHl => (setBitMem_sound s _).answers
  | .set0A => (setBitReg_sound s _ _).answers
  | .set1B => (setBitReg_sound s _ _).answers
  | .set1C => (setBitReg_sound s _ _).answers
  | .set1D => (setBitReg_sound s _ _).answers
  | .set1E => (setBitReg_sound s _ _).answers
  | .set1H => (setBitReg_sound s _ _).answers
  | .set1L => (setBitReg_sound s _ _).answers
  | .set1IndHl => (setBitMem_sound s _).answers
  | .set1A => (setBitReg_sound s _ _).answers
  | .set2B => (setBitReg_sound s _ _).answers
  | .set2C => (setBitReg_sound s _ _).answers
  | .set2D => (setBitReg_sound s _ _).answers
  | .set2E => (setBitReg_sound s _ _).answers
  | .set2H => (setBitReg_sound s _ _).answers
  | .set2L => (setBitReg_sound s _ _).answers
  | .set2IndHl => (setBitMem_sound s _).answers
  | .set2A => (setBitReg_sound s _ _).answers
  | .set3B => (setBitReg_sound s _ _).answers
  | .set3C => (setBitReg_sound s _ _).answers
  | .set3D => (setBitReg_sound s _ _).answers
  | .set3E => (setBitReg_sound s _ _).answers
  | .set3H => (setBitReg_sound s _ _).answers
  | .set3L => (setBitReg_sound s _ _).answers
  | .set3IndHl => (setBitMem_sound s _).answers
  | .set3A => (setBitReg_sound s _ _).answers
  | .set4B => (setBitReg_sound s _ _).answers
  | .set4C => (setBitReg_sound s _ _).answers
  | .set4D => (setBitReg_sound s _ _).answers
  | .set4E => (setBitReg_sound s _ _).answers
  | .set4H => (setBitReg_sound s _ _).answers
  | .set4L => (setBitReg_sound s _ _).answers
  | .set4IndHl => (setBitMem_sound s _).answers
  | .set4A => (setBitReg_sound s _ _).answers
  | .set5B => (setBitReg_sound s _ _).answers
  | .set5C => (setBitReg_sound s _ _).answers
  | .set5D => (setBitReg_sound s _ _).answers
  | .set5E => (setBitReg_sound s _ _).answers
  | .set5H => (setBitReg_sound s _ _).answers
  | .set5L => (setBitReg_sound s _ _).answers
  | .set5IndHl => (setBitMem_sound s _).answers
  | .set5A => (setBitReg_sound s _ _).answers
  | .set6B => (setBitReg_sound s _ _).answers
  | .set6C => (setBitReg_sound s _ _).answers
  | .set6D => (setBitReg_sound s _ _).answers
  | .set6E => (setBitReg_sound s _ _).answers
  | .set6H => (setBitReg_sound s _ _).answers
  | .set6L => (setBitReg_sound s _ _).answers
  | .set6IndHl => (setBitMem_sound s _).answers
  | .set6A => (setBitReg_sound s _ _).answers
  | .set7B => (setBitReg_sound s _ _).answers
  | .set7C => (setBitReg_sound s _ _).answers
  | .set7D => (setBitReg_sound s _ _).answers
  | .set7E => (setBitReg_sound s _ _).answers
  | .set7H => (setBitReg_sound s _ _).answers
  | .set7L => (setBitReg_sound s _ _).answers
  | .set7IndHl => (setBitMem_sound s _).answers
  | .set7A => (setBitReg_sound s _ _).answers

end Sys2Proof.Machine
end

