-- ==== Sys2Proof/Laws/Fetch.lean ====
section
/-! SUPPORT. What a fetch that is refused can be: an access's fault, recorded at the opcode's address. -/

namespace Sys2Proof.Machine

theorem State.fetch8_faults {s : State} {f : Fault} (h : s.fetch8 = .error f) : s.Faults f := by
  unfold State.fetch8 at h
  split at h
  · cases h
  · next r hr =>
    obtain rfl : r = f := by simpa using h
    exact State.load_faults hr

theorem State.fetchOpcode_faults {s : State} {f : Fault} (h : s.fetchOpcode = .error f) : s.Faults f := by
  unfold State.fetchOpcode at h
  split at h
  · cases h
  · next r hr =>
    obtain rfl : r = f := by simpa using h
    exact State.load_faults hr

/-- A fault after a change of the CPU that leaves `opPc` is a fault before it. -/
theorem State.Faults.of_cpu {s t : State} {f : Fault} (h : t.Faults f) (hc : t.cart = s.cart)
    (ho : t.cpu.opPc = s.cpu.opPc) : s.Faults f :=
  have ⟨bank, sel, hm, hs, hr⟩ := h.refuses
  ⟨⟨bank, sel, hc ▸ hm, hs, ho ▸ hr⟩, h.recorded⟩

theorem State.fetch8_frame {s t : State} {v : Byte} (h : s.fetch8 = .ok (v, t)) :
    t = s.setPc (s.cpu.pc + 1) := by
  unfold State.fetch8 at h
  split at h
  · simp only [Except.ok.injEq, Prod.mk.injEq] at h
    exact h.2.symm
  · cases h

theorem State.fetchOperands_faults {s : State} {op : Byte} {f : Fault}
    (h : s.fetchOperands op = .error f) : s.Faults f := by
  unfold State.fetchOperands at h
  split at h
  · cases h
  · split at h
    · cases h
    · next r hr =>
      obtain rfl : r = f := by simpa using h
      exact State.fetch8_faults hr
  · split at h
    · next r hr =>
      obtain rfl : r = f := by simpa using h
      exact State.fetch8_faults hr
    · next x t ht =>
      split at h
      · cases h
      · next r hr =>
        obtain rfl : r = f := by simpa using h
        have hk := State.fetch8_faults hr
        rw [State.fetch8_frame ht] at hk
        exact hk.of_cpu rfl rfl

/-- A refused fetch is recorded at the opcode's address (60_exceptions.md R382). -/
theorem State.fetchInstr_faults {s : State} {f : Fault} (h : s.fetchInstr = .error f) :
    (s.setOpPc s.cpu.pc).Faults f := by
  unfold State.fetchInstr at h
  split at h
  · next r hr =>
    obtain rfl : r = f := by simpa using h
    exact State.fetchOpcode_faults hr
  · next op t ht =>
    split at h
    · next r hr =>
      obtain rfl : r = f := by simpa using h
      refine (State.fetchOperands_faults hr).of_cpu ?_ ?_ <;>
      · unfold State.fetchOpcode at ht
        split at ht
        · simp only [Except.ok.injEq, Prod.mk.injEq] at ht
          rw [← ht.2]
          split <;> rfl
        · cases ht
    · cases h

end Sys2Proof.Machine
end

