-- ==== Sys2Proof/Laws/Launch.lean ====
section
/-! SUPPORT. What building sparse data from a launch parameter gives: the canonical form, and of a list in
that form the same values. -/

namespace Sys2Proof.Machine

variable {w : Nat}

theorem Cells.foldl_set_wf (l : Cells w) {m : Cells w} (h : Cells.wf m = true) :
    Cells.wf (l.foldl (fun m e => Cells.set m e.1 e.2) m) = true := by
  induction l generalizing m with
  | nil => exact h
  | cons e rest ih => exact ih (Cells.wf_set e.1 e.2 h)

/-- A launch's data is in its canonical form. -/
theorem Cells.wf_ofWrites (l : Cells w) : Cells.wf (Cells.ofWrites l) = true := Cells.foldl_set_wf l rfl

theorem Cells.get_foldl_set (l : Cells w) (m : Cells w) (a : Nat) (h : Cells.wf l = true) :
    (l.foldl (fun m e => Cells.set m e.1 e.2) m).get a
      = if l.get a = Cells.unlisted w then m.get a else l.get a := by
  induction l generalizing m with
  | nil => simp [Cells.get]
  | cons e rest ih =>
    obtain ⟨k, v⟩ := e
    obtain ⟨hv, hk, hr⟩ := Cells.wf_cons.mp h
    have hg : Cells.get ((k, v) :: rest) a = if k = a then v else Cells.get rest a := rfl
    rw [List.foldl_cons, ih _ hr]
    by_cases ha : k = a
    · subst ha
      rw [if_pos rfl] at hg
      simp [Cells.get_below hk, hg, hv]
    · rw [if_neg ha] at hg
      rw [Cells.get_set_other m v (Ne.symm ha)]
      simp only [hg]

/-- A launch's data in its canonical form reads as it was given. -/
theorem Cells.get_ofWrites {l : Cells w} (h : Cells.wf l = true) (a : Nat) :
    (Cells.ofWrites l).get a = l.get a := by
  have hg := Cells.get_foldl_set l [] a h
  unfold Cells.ofWrites
  rw [hg]
  split
  · next hu => exact hu.symm
  · rfl

/-- A part of data in its canonical form is in it. -/
theorem Cells.wf_filter {l : Cells w} (p : Nat × BitVec w → Bool) (h : Cells.wf l = true) :
    Cells.wf (l.filter p) = true := by
  induction l with
  | nil => rfl
  | cons e rest ih =>
    obtain ⟨k, v⟩ := e
    obtain ⟨hv, hk, hr⟩ := Cells.wf_cons.mp h
    rw [List.filter_cons]
    split
    · exact Cells.wf_cons.mpr ⟨hv, fun e he => hk e (List.mem_of_mem_filter he), ih hr⟩
    · exact ih hr

end Sys2Proof.Machine
end

