-- ==== Sys2Proof/Laws/PerInstr.lean ====
section
/-! SUPPORT. The round trip of the encoding, one lemma for each constructor of `Instr`: the word written
out for it from the spec's encoding (`encode`) decodes to it, with nothing left over. -/

namespace Sys2Proof.Laws.RoundTrip

/-- The word written for an instruction decodes to it (30_encoding.md R139, R140). -/
def Statement (i : Instr) : Prop := i.wellFormed = true → decode (encode i) = .ok (i, [])

/-- A word is its high and low byte. -/
theorem word16_bytes (w : Word) : word16 (hiByte w) (loByte w) = w := by
  unfold word16 hiByte loByte
  ext i hi
  simp only [BitVec.getElem_append, BitVec.getElem_extractLsb', Nat.zero_add]
  split
  · rfl
  · rw [Nat.add_sub_cancel' (by omega)]
    rfl

theorem ldBcN16 (n : Word) : Statement (.ldBcN16 n) := fun _ =>
  congrArg (fun x => Except.ok (Instr.ldBcN16 x, [])) (word16_bytes n)

theorem ldBN8 (n : Byte) : Statement (.ldBN8 n) := fun _ => rfl

theorem ldIndA16Sp (a : Word) : Statement (.ldIndA16Sp a) := fun _ =>
  congrArg (fun x => Except.ok (Instr.ldIndA16Sp x, [])) (word16_bytes a)

theorem ldCN8 (n : Byte) : Statement (.ldCN8 n) := fun _ => rfl

theorem ldDeN16 (n : Word) : Statement (.ldDeN16 n) := fun _ =>
  congrArg (fun x => Except.ok (Instr.ldDeN16 x, [])) (word16_bytes n)

theorem ldDN8 (n : Byte) : Statement (.ldDN8 n) := fun _ => rfl

theorem jrE8 (e : Byte) : Statement (.jrE8 e) := fun _ => rfl

theorem ldEN8 (n : Byte) : Statement (.ldEN8 n) := fun _ => rfl

theorem jrNzE8 (e : Byte) : Statement (.jrNzE8 e) := fun _ => rfl

theorem ldHlN16 (n : Word) : Statement (.ldHlN16 n) := fun _ =>
  congrArg (fun x => Except.ok (Instr.ldHlN16 x, [])) (word16_bytes n)

theorem ldHN8 (n : Byte) : Statement (.ldHN8 n) := fun _ => rfl

theorem jrZE8 (e : Byte) : Statement (.jrZE8 e) := fun _ => rfl

theorem ldLN8 (n : Byte) : Statement (.ldLN8 n) := fun _ => rfl

theorem jrNcE8 (e : Byte) : Statement (.jrNcE8 e) := fun _ => rfl

theorem ldSpN16 (n : Word) : Statement (.ldSpN16 n) := fun _ =>
  congrArg (fun x => Except.ok (Instr.ldSpN16 x, [])) (word16_bytes n)

theorem ldIndHlN8 (n : Byte) : Statement (.ldIndHlN8 n) := fun _ => rfl

theorem jrCE8 (e : Byte) : Statement (.jrCE8 e) := fun _ => rfl

theorem ldAN8 (n : Byte) : Statement (.ldAN8 n) := fun _ => rfl

theorem jpNzA16 (a : Word) : Statement (.jpNzA16 a) := fun _ =>
  congrArg (fun x => Except.ok (Instr.jpNzA16 x, [])) (word16_bytes a)

theorem jpA16 (a : Word) : Statement (.jpA16 a) := fun _ =>
  congrArg (fun x => Except.ok (Instr.jpA16 x, [])) (word16_bytes a)

theorem callNzA16 (a : Word) : Statement (.callNzA16 a) := fun _ =>
  congrArg (fun x => Except.ok (Instr.callNzA16 x, [])) (word16_bytes a)

theorem addAN8 (n : Byte) : Statement (.addAN8 n) := fun _ => rfl

theorem jpZA16 (a : Word) : Statement (.jpZA16 a) := fun _ =>
  congrArg (fun x => Except.ok (Instr.jpZA16 x, [])) (word16_bytes a)

theorem prefixCb (cbop : Byte) : Statement (.prefixCb cbop) := fun h => by cases h

theorem callZA16 (a : Word) : Statement (.callZA16 a) := fun _ =>
  congrArg (fun x => Except.ok (Instr.callZA16 x, [])) (word16_bytes a)

theorem callA16 (a : Word) : Statement (.callA16 a) := fun _ =>
  congrArg (fun x => Except.ok (Instr.callA16 x, [])) (word16_bytes a)

theorem adcAN8 (n : Byte) : Statement (.adcAN8 n) := fun _ => rfl

theorem jpNcA16 (a : Word) : Statement (.jpNcA16 a) := fun _ =>
  congrArg (fun x => Except.ok (Instr.jpNcA16 x, [])) (word16_bytes a)

theorem callNcA16 (a : Word) : Statement (.callNcA16 a) := fun _ =>
  congrArg (fun x => Except.ok (Instr.callNcA16 x, [])) (word16_bytes a)

theorem subAN8 (n : Byte) : Statement (.subAN8 n) := fun _ => rfl

theorem jpCA16 (a : Word) : Statement (.jpCA16 a) := fun _ =>
  congrArg (fun x => Except.ok (Instr.jpCA16 x, [])) (word16_bytes a)

theorem callCA16 (a : Word) : Statement (.callCA16 a) := fun _ =>
  congrArg (fun x => Except.ok (Instr.callCA16 x, [])) (word16_bytes a)

theorem sbcAN8 (n : Byte) : Statement (.sbcAN8 n) := fun _ => rfl

theorem ldhIndA8A (n : Byte) : Statement (.ldhIndA8A n) := fun _ => rfl

theorem andAN8 (n : Byte) : Statement (.andAN8 n) := fun _ => rfl

theorem addSpE8 (e : Byte) : Statement (.addSpE8 e) := fun _ => rfl

theorem ldIndA16A (a : Word) : Statement (.ldIndA16A a) := fun _ =>
  congrArg (fun x => Except.ok (Instr.ldIndA16A x, [])) (word16_bytes a)

theorem xorAN8 (n : Byte) : Statement (.xorAN8 n) := fun _ => rfl

theorem ldhAIndA8 (n : Byte) : Statement (.ldhAIndA8 n) := fun _ => rfl

theorem orAN8 (n : Byte) : Statement (.orAN8 n) := fun _ => rfl

theorem ldHlSpE8 (e : Byte) : Statement (.ldHlSpE8 e) := fun _ => rfl

theorem ldAIndA16 (a : Word) : Statement (.ldAIndA16 a) := fun _ =>
  congrArg (fun x => Except.ok (Instr.ldAIndA16 x, [])) (word16_bytes a)

theorem cpAN8 (n : Byte) : Statement (.cpAN8 n) := fun _ => rfl

theorem nop : Statement .nop := fun _ => rfl

theorem ldIndBcA : Statement .ldIndBcA := fun _ => rfl

theorem incBc : Statement .incBc := fun _ => rfl

theorem incB : Statement .incB := fun _ => rfl

theorem decB : Statement .decB := fun _ => rfl

theorem rlca : Statement .rlca := fun _ => rfl

theorem addHlBc : Statement .addHlBc := fun _ => rfl

theorem ldAIndBc : Statement .ldAIndBc := fun _ => rfl

theorem decBc : Statement .decBc := fun _ => rfl

theorem incC : Statement .incC := fun _ => rfl

theorem decC : Statement .decC := fun _ => rfl

theorem rrca : Statement .rrca := fun _ => rfl

theorem stop : Statement .stop := fun _ => rfl

theorem ldIndDeA : Statement .ldIndDeA := fun _ => rfl

theorem incDe : Statement .incDe := fun _ => rfl

theorem incD : Statement .incD := fun _ => rfl

theorem decD : Statement .decD := fun _ => rfl

theorem rla : Statement .rla := fun _ => rfl

theorem addHlDe : Statement .addHlDe := fun _ => rfl

theorem ldAIndDe : Statement .ldAIndDe := fun _ => rfl

theorem decDe : Statement .decDe := fun _ => rfl

theorem incE : Statement .incE := fun _ => rfl

theorem decE : Statement .decE := fun _ => rfl

theorem rra : Statement .rra := fun _ => rfl

theorem ldIndHliA : Statement .ldIndHliA := fun _ => rfl

theorem incHl : Statement .incHl := fun _ => rfl

theorem incH : Statement .incH := fun _ => rfl

theorem decH : Statement .decH := fun _ => rfl

theorem daa : Statement .daa := fun _ => rfl

theorem addHlHl : Statement .addHlHl := fun _ => rfl

theorem ldAIndHli : Statement .ldAIndHli := fun _ => rfl

theorem decHl : Statement .decHl := fun _ => rfl

theorem incL : Statement .incL := fun _ => rfl

theorem decL : Statement .decL := fun _ => rfl

theorem cpl : Statement .cpl := fun _ => rfl

theorem ldIndHldA : Statement .ldIndHldA := fun _ => rfl

theorem incSp : Statement .incSp := fun _ => rfl

theorem incIndHl : Statement .incIndHl := fun _ => rfl

theorem decIndHl : Statement .decIndHl := fun _ => rfl

theorem scf : Statement .scf := fun _ => rfl

theorem addHlSp : Statement .addHlSp := fun _ => rfl

theorem ldAIndHld : Statement .ldAIndHld := fun _ => rfl

theorem decSp : Statement .decSp := fun _ => rfl

theorem incA : Statement .incA := fun _ => rfl

theorem decA : Statement .decA := fun _ => rfl

theorem ccf : Statement .ccf := fun _ => rfl

theorem ldBB : Statement .ldBB := fun _ => rfl

theorem ldBC : Statement .ldBC := fun _ => rfl

theorem ldBD : Statement .ldBD := fun _ => rfl

theorem ldBE : Statement .ldBE := fun _ => rfl

theorem ldBH : Statement .ldBH := fun _ => rfl

theorem ldBL : Statement .ldBL := fun _ => rfl

theorem ldBIndHl : Statement .ldBIndHl := fun _ => rfl

theorem ldBA : Statement .ldBA := fun _ => rfl

theorem ldCB : Statement .ldCB := fun _ => rfl

theorem ldCC : Statement .ldCC := fun _ => rfl

theorem ldCD : Statement .ldCD := fun _ => rfl

theorem ldCE : Statement .ldCE := fun _ => rfl

theorem ldCH : Statement .ldCH := fun _ => rfl

theorem ldCL : Statement .ldCL := fun _ => rfl

theorem ldCIndHl : Statement .ldCIndHl := fun _ => rfl

theorem ldCA : Statement .ldCA := fun _ => rfl

theorem ldDB : Statement .ldDB := fun _ => rfl

theorem ldDC : Statement .ldDC := fun _ => rfl

theorem ldDD : Statement .ldDD := fun _ => rfl

theorem ldDE : Statement .ldDE := fun _ => rfl

theorem ldDH : Statement .ldDH := fun _ => rfl

theorem ldDL : Statement .ldDL := fun _ => rfl

theorem ldDIndHl : Statement .ldDIndHl := fun _ => rfl

theorem ldDA : Statement .ldDA := fun _ => rfl

theorem ldEB : Statement .ldEB := fun _ => rfl

theorem ldEC : Statement .ldEC := fun _ => rfl

theorem ldED : Statement .ldED := fun _ => rfl

theorem ldEE : Statement .ldEE := fun _ => rfl

theorem ldEH : Statement .ldEH := fun _ => rfl

theorem ldEL : Statement .ldEL := fun _ => rfl

theorem ldEIndHl : Statement .ldEIndHl := fun _ => rfl

theorem ldEA : Statement .ldEA := fun _ => rfl

theorem ldHB : Statement .ldHB := fun _ => rfl

theorem ldHC : Statement .ldHC := fun _ => rfl

theorem ldHD : Statement .ldHD := fun _ => rfl

theorem ldHE : Statement .ldHE := fun _ => rfl

theorem ldHH : Statement .ldHH := fun _ => rfl

theorem ldHL : Statement .ldHL := fun _ => rfl

theorem ldHIndHl : Statement .ldHIndHl := fun _ => rfl

theorem ldHA : Statement .ldHA := fun _ => rfl

theorem ldLB : Statement .ldLB := fun _ => rfl

theorem ldLC : Statement .ldLC := fun _ => rfl

theorem ldLD : Statement .ldLD := fun _ => rfl

theorem ldLE : Statement .ldLE := fun _ => rfl

theorem ldLH : Statement .ldLH := fun _ => rfl

theorem ldLL : Statement .ldLL := fun _ => rfl

theorem ldLIndHl : Statement .ldLIndHl := fun _ => rfl

theorem ldLA : Statement .ldLA := fun _ => rfl

theorem ldIndHlB : Statement .ldIndHlB := fun _ => rfl

theorem ldIndHlC : Statement .ldIndHlC := fun _ => rfl

theorem ldIndHlD : Statement .ldIndHlD := fun _ => rfl

theorem ldIndHlE : Statement .ldIndHlE := fun _ => rfl

theorem ldIndHlH : Statement .ldIndHlH := fun _ => rfl

theorem ldIndHlL : Statement .ldIndHlL := fun _ => rfl

theorem halt : Statement .halt := fun _ => rfl

theorem ldIndHlA : Statement .ldIndHlA := fun _ => rfl

theorem ldAB : Statement .ldAB := fun _ => rfl

theorem ldAC : Statement .ldAC := fun _ => rfl

theorem ldAD : Statement .ldAD := fun _ => rfl

theorem ldAE : Statement .ldAE := fun _ => rfl

theorem ldAH : Statement .ldAH := fun _ => rfl

theorem ldAL : Statement .ldAL := fun _ => rfl

theorem ldAIndHl : Statement .ldAIndHl := fun _ => rfl

theorem ldAA : Statement .ldAA := fun _ => rfl

theorem addAB : Statement .addAB := fun _ => rfl

theorem addAC : Statement .addAC := fun _ => rfl

theorem addAD : Statement .addAD := fun _ => rfl

theorem addAE : Statement .addAE := fun _ => rfl

theorem addAH : Statement .addAH := fun _ => rfl

theorem addAL : Statement .addAL := fun _ => rfl

theorem addAIndHl : Statement .addAIndHl := fun _ => rfl

theorem addAA : Statement .addAA := fun _ => rfl

theorem adcAB : Statement .adcAB := fun _ => rfl

theorem adcAC : Statement .adcAC := fun _ => rfl

theorem adcAD : Statement .adcAD := fun _ => rfl

theorem adcAE : Statement .adcAE := fun _ => rfl

theorem adcAH : Statement .adcAH := fun _ => rfl

theorem adcAL : Statement .adcAL := fun _ => rfl

theorem adcAIndHl : Statement .adcAIndHl := fun _ => rfl

theorem adcAA : Statement .adcAA := fun _ => rfl

theorem subAB : Statement .subAB := fun _ => rfl

theorem subAC : Statement .subAC := fun _ => rfl

theorem subAD : Statement .subAD := fun _ => rfl

theorem subAE : Statement .subAE := fun _ => rfl

theorem subAH : Statement .subAH := fun _ => rfl

theorem subAL : Statement .subAL := fun _ => rfl

theorem subAIndHl : Statement .subAIndHl := fun _ => rfl

theorem subAA : Statement .subAA := fun _ => rfl

theorem sbcAB : Statement .sbcAB := fun _ => rfl

theorem sbcAC : Statement .sbcAC := fun _ => rfl

theorem sbcAD : Statement .sbcAD := fun _ => rfl

theorem sbcAE : Statement .sbcAE := fun _ => rfl

theorem sbcAH : Statement .sbcAH := fun _ => rfl

theorem sbcAL : Statement .sbcAL := fun _ => rfl

theorem sbcAIndHl : Statement .sbcAIndHl := fun _ => rfl

theorem sbcAA : Statement .sbcAA := fun _ => rfl

theorem andAB : Statement .andAB := fun _ => rfl

theorem andAC : Statement .andAC := fun _ => rfl

theorem andAD : Statement .andAD := fun _ => rfl

theorem andAE : Statement .andAE := fun _ => rfl

theorem andAH : Statement .andAH := fun _ => rfl

theorem andAL : Statement .andAL := fun _ => rfl

theorem andAIndHl : Statement .andAIndHl := fun _ => rfl

theorem andAA : Statement .andAA := fun _ => rfl

theorem xorAB : Statement .xorAB := fun _ => rfl

theorem xorAC : Statement .xorAC := fun _ => rfl

theorem xorAD : Statement .xorAD := fun _ => rfl

theorem xorAE : Statement .xorAE := fun _ => rfl

theorem xorAH : Statement .xorAH := fun _ => rfl

theorem xorAL : Statement .xorAL := fun _ => rfl

theorem xorAIndHl : Statement .xorAIndHl := fun _ => rfl

theorem xorAA : Statement .xorAA := fun _ => rfl

theorem orAB : Statement .orAB := fun _ => rfl

theorem orAC : Statement .orAC := fun _ => rfl

theorem orAD : Statement .orAD := fun _ => rfl

theorem orAE : Statement .orAE := fun _ => rfl

theorem orAH : Statement .orAH := fun _ => rfl

theorem orAL : Statement .orAL := fun _ => rfl

theorem orAIndHl : Statement .orAIndHl := fun _ => rfl

theorem orAA : Statement .orAA := fun _ => rfl

theorem cpAB : Statement .cpAB := fun _ => rfl

theorem cpAC : Statement .cpAC := fun _ => rfl

theorem cpAD : Statement .cpAD := fun _ => rfl

theorem cpAE : Statement .cpAE := fun _ => rfl

theorem cpAH : Statement .cpAH := fun _ => rfl

theorem cpAL : Statement .cpAL := fun _ => rfl

theorem cpAIndHl : Statement .cpAIndHl := fun _ => rfl

theorem cpAA : Statement .cpAA := fun _ => rfl

theorem retNz : Statement .retNz := fun _ => rfl

theorem popBc : Statement .popBc := fun _ => rfl

theorem pushBc : Statement .pushBc := fun _ => rfl

theorem rst00 : Statement .rst00 := fun _ => rfl

theorem retZ : Statement .retZ := fun _ => rfl

theorem ret : Statement .ret := fun _ => rfl

theorem rst08 : Statement .rst08 := fun _ => rfl

theorem retNc : Statement .retNc := fun _ => rfl

theorem popDe : Statement .popDe := fun _ => rfl

theorem illegalD3 : Statement .illegalD3 := fun _ => rfl

theorem pushDe : Statement .pushDe := fun _ => rfl

theorem rst10 : Statement .rst10 := fun _ => rfl

theorem retC : Statement .retC := fun _ => rfl

theorem reti : Statement .reti := fun _ => rfl

theorem illegalDB : Statement .illegalDB := fun _ => rfl

theorem illegalDD : Statement .illegalDD := fun _ => rfl

theorem rst18 : Statement .rst18 := fun _ => rfl

theorem popHl : Statement .popHl := fun _ => rfl

theorem ldhIndCA : Statement .ldhIndCA := fun _ => rfl

theorem illegalE3 : Statement .illegalE3 := fun _ => rfl

theorem illegalE4 : Statement .illegalE4 := fun _ => rfl

theorem pushHl : Statement .pushHl := fun _ => rfl

theorem rst20 : Statement .rst20 := fun _ => rfl

theorem jpHl : Statement .jpHl := fun _ => rfl

theorem illegalEB : Statement .illegalEB := fun _ => rfl

theorem illegalEC : Statement .illegalEC := fun _ => rfl

theorem illegalED : Statement .illegalED := fun _ => rfl

theorem rst28 : Statement .rst28 := fun _ => rfl

theorem popAf : Statement .popAf := fun _ => rfl

theorem ldhAIndC : Statement .ldhAIndC := fun _ => rfl

theorem di : Statement .di := fun _ => rfl

theorem illegalF4 : Statement .illegalF4 := fun _ => rfl

theorem pushAf : Statement .pushAf := fun _ => rfl

theorem rst30 : Statement .rst30 := fun _ => rfl

theorem ldSpHl : Statement .ldSpHl := fun _ => rfl

theorem ei : Statement .ei := fun _ => rfl

theorem illegalFC : Statement .illegalFC := fun _ => rfl

theorem illegalFD : Statement .illegalFD := fun _ => rfl

theorem rst38 : Statement .rst38 := fun _ => rfl

theorem cbRlcB : Statement .cbRlcB := fun _ => rfl

theorem cbRlcC : Statement .cbRlcC := fun _ => rfl

theorem cbRlcD : Statement .cbRlcD := fun _ => rfl

theorem cbRlcE : Statement .cbRlcE := fun _ => rfl

theorem cbRlcH : Statement .cbRlcH := fun _ => rfl

theorem cbRlcL : Statement .cbRlcL := fun _ => rfl

theorem cbRlcIndHl : Statement .cbRlcIndHl := fun _ => rfl

theorem cbRlcA : Statement .cbRlcA := fun _ => rfl

theorem cbRrcB : Statement .cbRrcB := fun _ => rfl

theorem cbRrcC : Statement .cbRrcC := fun _ => rfl

theorem cbRrcD : Statement .cbRrcD := fun _ => rfl

theorem cbRrcE : Statement .cbRrcE := fun _ => rfl

theorem cbRrcH : Statement .cbRrcH := fun _ => rfl

theorem cbRrcL : Statement .cbRrcL := fun _ => rfl

theorem cbRrcIndHl : Statement .cbRrcIndHl := fun _ => rfl

theorem cbRrcA : Statement .cbRrcA := fun _ => rfl

theorem cbRlB : Statement .cbRlB := fun _ => rfl

theorem cbRlC : Statement .cbRlC := fun _ => rfl

theorem cbRlD : Statement .cbRlD := fun _ => rfl

theorem cbRlE : Statement .cbRlE := fun _ => rfl

theorem cbRlH : Statement .cbRlH := fun _ => rfl

theorem cbRlL : Statement .cbRlL := fun _ => rfl

theorem cbRlIndHl : Statement .cbRlIndHl := fun _ => rfl

theorem cbRlA : Statement .cbRlA := fun _ => rfl

theorem cbRrB : Statement .cbRrB := fun _ => rfl

theorem cbRrC : Statement .cbRrC := fun _ => rfl

theorem cbRrD : Statement .cbRrD := fun _ => rfl

theorem cbRrE : Statement .cbRrE := fun _ => rfl

theorem cbRrH : Statement .cbRrH := fun _ => rfl

theorem cbRrL : Statement .cbRrL := fun _ => rfl

theorem cbRrIndHl : Statement .cbRrIndHl := fun _ => rfl

theorem cbRrA : Statement .cbRrA := fun _ => rfl

theorem cbSlaB : Statement .cbSlaB := fun _ => rfl

theorem cbSlaC : Statement .cbSlaC := fun _ => rfl

theorem cbSlaD : Statement .cbSlaD := fun _ => rfl

theorem cbSlaE : Statement .cbSlaE := fun _ => rfl

theorem cbSlaH : Statement .cbSlaH := fun _ => rfl

theorem cbSlaL : Statement .cbSlaL := fun _ => rfl

theorem cbSlaIndHl : Statement .cbSlaIndHl := fun _ => rfl

theorem cbSlaA : Statement .cbSlaA := fun _ => rfl

theorem cbSraB : Statement .cbSraB := fun _ => rfl

theorem cbSraC : Statement .cbSraC := fun _ => rfl

theorem cbSraD : Statement .cbSraD := fun _ => rfl

theorem cbSraE : Statement .cbSraE := fun _ => rfl

theorem cbSraH : Statement .cbSraH := fun _ => rfl

theorem cbSraL : Statement .cbSraL := fun _ => rfl

theorem cbSraIndHl : Statement .cbSraIndHl := fun _ => rfl

theorem cbSraA : Statement .cbSraA := fun _ => rfl

theorem cbSwapB : Statement .cbSwapB := fun _ => rfl

theorem cbSwapC : Statement .cbSwapC := fun _ => rfl

theorem cbSwapD : Statement .cbSwapD := fun _ => rfl

theorem cbSwapE : Statement .cbSwapE := fun _ => rfl

theorem cbSwapH : Statement .cbSwapH := fun _ => rfl

theorem cbSwapL : Statement .cbSwapL := fun _ => rfl

theorem cbSwapIndHl : Statement .cbSwapIndHl := fun _ => rfl

theorem cbSwapA : Statement .cbSwapA := fun _ => rfl

theorem cbSrlB : Statement .cbSrlB := fun _ => rfl

theorem cbSrlC : Statement .cbSrlC := fun _ => rfl

theorem cbSrlD : Statement .cbSrlD := fun _ => rfl

theorem cbSrlE : Statement .cbSrlE := fun _ => rfl

theorem cbSrlH : Statement .cbSrlH := fun _ => rfl

theorem cbSrlL : Statement .cbSrlL := fun _ => rfl

theorem cbSrlIndHl : Statement .cbSrlIndHl := fun _ => rfl

theorem cbSrlA : Statement .cbSrlA := fun _ => rfl

theorem bit0B : Statement .bit0B := fun _ => rfl

theorem bit0C : Statement .bit0C := fun _ => rfl

theorem bit0D : Statement .bit0D := fun _ => rfl

theorem bit0E : Statement .bit0E := fun _ => rfl

theorem bit0H : Statement .bit0H := fun _ => rfl

theorem bit0L : Statement .bit0L := fun _ => rfl

theorem bit0IndHl : Statement .bit0IndHl := fun _ => rfl

theorem bit0A : Statement .bit0A := fun _ => rfl

theorem bit1B : Statement .bit1B := fun _ => rfl

theorem bit1C : Statement .bit1C := fun _ => rfl

theorem bit1D : Statement .bit1D := fun _ => rfl

theorem bit1E : Statement .bit1E := fun _ => rfl

theorem bit1H : Statement .bit1H := fun _ => rfl

theorem bit1L : Statement .bit1L := fun _ => rfl

theorem bit1IndHl : Statement .bit1IndHl := fun _ => rfl

theorem bit1A : Statement .bit1A := fun _ => rfl

theorem bit2B : Statement .bit2B := fun _ => rfl

theorem bit2C : Statement .bit2C := fun _ => rfl

theorem bit2D : Statement .bit2D := fun _ => rfl

theorem bit2E : Statement .bit2E := fun _ => rfl

theorem bit2H : Statement .bit2H := fun _ => rfl

theorem bit2L : Statement .bit2L := fun _ => rfl

theorem bit2IndHl : Statement .bit2IndHl := fun _ => rfl

theorem bit2A : Statement .bit2A := fun _ => rfl

theorem bit3B : Statement .bit3B := fun _ => rfl

theorem bit3C : Statement .bit3C := fun _ => rfl

theorem bit3D : Statement .bit3D := fun _ => rfl

theorem bit3E : Statement .bit3E := fun _ => rfl

theorem bit3H : Statement .bit3H := fun _ => rfl

theorem bit3L : Statement .bit3L := fun _ => rfl

theorem bit3IndHl : Statement .bit3IndHl := fun _ => rfl

theorem bit3A : Statement .bit3A := fun _ => rfl

theorem bit4B : Statement .bit4B := fun _ => rfl

theorem bit4C : Statement .bit4C := fun _ => rfl

theorem bit4D : Statement .bit4D := fun _ => rfl

theorem bit4E : Statement .bit4E := fun _ => rfl

theorem bit4H : Statement .bit4H := fun _ => rfl

theorem bit4L : Statement .bit4L := fun _ => rfl

theorem bit4IndHl : Statement .bit4IndHl := fun _ => rfl

theorem bit4A : Statement .bit4A := fun _ => rfl

theorem bit5B : Statement .bit5B := fun _ => rfl

theorem bit5C : Statement .bit5C := fun _ => rfl

theorem bit5D : Statement .bit5D := fun _ => rfl

theorem bit5E : Statement .bit5E := fun _ => rfl

theorem bit5H : Statement .bit5H := fun _ => rfl

theorem bit5L : Statement .bit5L := fun _ => rfl

theorem bit5IndHl : Statement .bit5IndHl := fun _ => rfl

theorem bit5A : Statement .bit5A := fun _ => rfl

theorem bit6B : Statement .bit6B := fun _ => rfl

theorem bit6C : Statement .bit6C := fun _ => rfl

theorem bit6D : Statement .bit6D := fun _ => rfl

theorem bit6E : Statement .bit6E := fun _ => rfl

theorem bit6H : Statement .bit6H := fun _ => rfl

theorem bit6L : Statement .bit6L := fun _ => rfl

theorem bit6IndHl : Statement .bit6IndHl := fun _ => rfl

theorem bit6A : Statement .bit6A := fun _ => rfl

theorem bit7B : Statement .bit7B := fun _ => rfl

theorem bit7C : Statement .bit7C := fun _ => rfl

theorem bit7D : Statement .bit7D := fun _ => rfl

theorem bit7E : Statement .bit7E := fun _ => rfl

theorem bit7H : Statement .bit7H := fun _ => rfl

theorem bit7L : Statement .bit7L := fun _ => rfl

theorem bit7IndHl : Statement .bit7IndHl := fun _ => rfl

theorem bit7A : Statement .bit7A := fun _ => rfl

theorem res0B : Statement .res0B := fun _ => rfl

theorem res0C : Statement .res0C := fun _ => rfl

theorem res0D : Statement .res0D := fun _ => rfl

theorem res0E : Statement .res0E := fun _ => rfl

theorem res0H : Statement .res0H := fun _ => rfl

theorem res0L : Statement .res0L := fun _ => rfl

theorem res0IndHl : Statement .res0IndHl := fun _ => rfl

theorem res0A : Statement .res0A := fun _ => rfl

theorem res1B : Statement .res1B := fun _ => rfl

theorem res1C : Statement .res1C := fun _ => rfl

theorem res1D : Statement .res1D := fun _ => rfl

theorem res1E : Statement .res1E := fun _ => rfl

theorem res1H : Statement .res1H := fun _ => rfl

theorem res1L : Statement .res1L := fun _ => rfl

theorem res1IndHl : Statement .res1IndHl := fun _ => rfl

theorem res1A : Statement .res1A := fun _ => rfl

theorem res2B : Statement .res2B := fun _ => rfl

theorem res2C : Statement .res2C := fun _ => rfl

theorem res2D : Statement .res2D := fun _ => rfl

theorem res2E : Statement .res2E := fun _ => rfl

theorem res2H : Statement .res2H := fun _ => rfl

theorem res2L : Statement .res2L := fun _ => rfl

theorem res2IndHl : Statement .res2IndHl := fun _ => rfl

theorem res2A : Statement .res2A := fun _ => rfl

theorem res3B : Statement .res3B := fun _ => rfl

theorem res3C : Statement .res3C := fun _ => rfl

theorem res3D : Statement .res3D := fun _ => rfl

theorem res3E : Statement .res3E := fun _ => rfl

theorem res3H : Statement .res3H := fun _ => rfl

theorem res3L : Statement .res3L := fun _ => rfl

theorem res3IndHl : Statement .res3IndHl := fun _ => rfl

theorem res3A : Statement .res3A := fun _ => rfl

theorem res4B : Statement .res4B := fun _ => rfl

theorem res4C : Statement .res4C := fun _ => rfl

theorem res4D : Statement .res4D := fun _ => rfl

theorem res4E : Statement .res4E := fun _ => rfl

theorem res4H : Statement .res4H := fun _ => rfl

theorem res4L : Statement .res4L := fun _ => rfl

theorem res4IndHl : Statement .res4IndHl := fun _ => rfl

theorem res4A : Statement .res4A := fun _ => rfl

theorem res5B : Statement .res5B := fun _ => rfl

theorem res5C : Statement .res5C := fun _ => rfl

theorem res5D : Statement .res5D := fun _ => rfl

theorem res5E : Statement .res5E := fun _ => rfl

theorem res5H : Statement .res5H := fun _ => rfl

theorem res5L : Statement .res5L := fun _ => rfl

theorem res5IndHl : Statement .res5IndHl := fun _ => rfl

theorem res5A : Statement .res5A := fun _ => rfl

theorem res6B : Statement .res6B := fun _ => rfl

theorem res6C : Statement .res6C := fun _ => rfl

theorem res6D : Statement .res6D := fun _ => rfl

theorem res6E : Statement .res6E := fun _ => rfl

theorem res6H : Statement .res6H := fun _ => rfl

theorem res6L : Statement .res6L := fun _ => rfl

theorem res6IndHl : Statement .res6IndHl := fun _ => rfl

theorem res6A : Statement .res6A := fun _ => rfl

theorem res7B : Statement .res7B := fun _ => rfl

theorem res7C : Statement .res7C := fun _ => rfl

theorem res7D : Statement .res7D := fun _ => rfl

theorem res7E : Statement .res7E := fun _ => rfl

theorem res7H : Statement .res7H := fun _ => rfl

theorem res7L : Statement .res7L := fun _ => rfl

theorem res7IndHl : Statement .res7IndHl := fun _ => rfl

theorem res7A : Statement .res7A := fun _ => rfl

theorem set0B : Statement .set0B := fun _ => rfl

theorem set0C : Statement .set0C := fun _ => rfl

theorem set0D : Statement .set0D := fun _ => rfl

theorem set0E : Statement .set0E := fun _ => rfl

theorem set0H : Statement .set0H := fun _ => rfl

theorem set0L : Statement .set0L := fun _ => rfl

theorem set0IndHl : Statement .set0IndHl := fun _ => rfl

theorem set0A : Statement .set0A := fun _ => rfl

theorem set1B : Statement .set1B := fun _ => rfl

theorem set1C : Statement .set1C := fun _ => rfl

theorem set1D : Statement .set1D := fun _ => rfl

theorem set1E : Statement .set1E := fun _ => rfl

theorem set1H : Statement .set1H := fun _ => rfl

theorem set1L : Statement .set1L := fun _ => rfl

theorem set1IndHl : Statement .set1IndHl := fun _ => rfl

theorem set1A : Statement .set1A := fun _ => rfl

theorem set2B : Statement .set2B := fun _ => rfl

theorem set2C : Statement .set2C := fun _ => rfl

theorem set2D : Statement .set2D := fun _ => rfl

theorem set2E : Statement .set2E := fun _ => rfl

theorem set2H : Statement .set2H := fun _ => rfl

theorem set2L : Statement .set2L := fun _ => rfl

theorem set2IndHl : Statement .set2IndHl := fun _ => rfl

theorem set2A : Statement .set2A := fun _ => rfl

theorem set3B : Statement .set3B := fun _ => rfl

theorem set3C : Statement .set3C := fun _ => rfl

theorem set3D : Statement .set3D := fun _ => rfl

theorem set3E : Statement .set3E := fun _ => rfl

theorem set3H : Statement .set3H := fun _ => rfl

theorem set3L : Statement .set3L := fun _ => rfl

theorem set3IndHl : Statement .set3IndHl := fun _ => rfl

theorem set3A : Statement .set3A := fun _ => rfl

theorem set4B : Statement .set4B := fun _ => rfl

theorem set4C : Statement .set4C := fun _ => rfl

theorem set4D : Statement .set4D := fun _ => rfl

theorem set4E : Statement .set4E := fun _ => rfl

theorem set4H : Statement .set4H := fun _ => rfl

theorem set4L : Statement .set4L := fun _ => rfl

theorem set4IndHl : Statement .set4IndHl := fun _ => rfl

theorem set4A : Statement .set4A := fun _ => rfl

theorem set5B : Statement .set5B := fun _ => rfl

theorem set5C : Statement .set5C := fun _ => rfl

theorem set5D : Statement .set5D := fun _ => rfl

theorem set5E : Statement .set5E := fun _ => rfl

theorem set5H : Statement .set5H := fun _ => rfl

theorem set5L : Statement .set5L := fun _ => rfl

theorem set5IndHl : Statement .set5IndHl := fun _ => rfl

theorem set5A : Statement .set5A := fun _ => rfl

theorem set6B : Statement .set6B := fun _ => rfl

theorem set6C : Statement .set6C := fun _ => rfl

theorem set6D : Statement .set6D := fun _ => rfl

theorem set6E : Statement .set6E := fun _ => rfl

theorem set6H : Statement .set6H := fun _ => rfl

theorem set6L : Statement .set6L := fun _ => rfl

theorem set6IndHl : Statement .set6IndHl := fun _ => rfl

theorem set6A : Statement .set6A := fun _ => rfl

theorem set7B : Statement .set7B := fun _ => rfl

theorem set7C : Statement .set7C := fun _ => rfl

theorem set7D : Statement .set7D := fun _ => rfl

theorem set7E : Statement .set7E := fun _ => rfl

theorem set7H : Statement .set7H := fun _ => rfl

theorem set7L : Statement .set7L := fun _ => rfl

theorem set7IndHl : Statement .set7IndHl := fun _ => rfl

theorem set7A : Statement .set7A := fun _ => rfl

end Sys2Proof.Laws.RoundTrip
end

