-- ==== Sys2Proof/Tests/Slice0.lean ====
section
/-! SUPPORT. Tests of the model against the worked examples of spec/, one step each, and, for every statement
with hypotheses, a state and operands that meet them. -/

namespace Sys2Proof.Tests

open Sys2Proof.Machine

/-! ## Helpers -/

/-- The machine after reset with three bytes at PC, its CPU changed by `f`, and bytes stored. -/
def boot (f : Cpu → Cpu) (bytes : List (Word × Byte)) (x y z : Byte) : State :=
  let s := State.reset.placeInstr x y z
  bytes.foldl (fun s e => s.placeByte e.1 e.2) { s with cpu := f s.cpu }

/-- The state one step later. -/
def after (s : State) : Option State :=
  match step s with
  | .next t => some t
  | _ => none

/-- The record of a step's fault, and the state it leaves. -/
def faulted (s : State) : Option (FaultRecord × State) :=
  match step s with
  | .fault f => some (f.record, f.left)
  | _ => none

/-- The state after an instruction's own effect. -/
def effect (i : Instr) (s : State) : Option State :=
  match exec i s with
  | .next t => some t
  | _ => none

/-- An MBC3 that refuses accesses to its RAM window. -/
def refusing : State := { State.reset with cart := { Cart.reset with mbc := .mbc3 true 1 8 } }

/-- The reset machine over another controller, with two banks of RAM. -/
def withMbc (m : Mbc) : State :=
  { State.reset with cart := { Cart.reset with mbc := m, ramBankCount := 2, ramSize := 0x4000 } }

/-! ## Well-formedness: a term for the one check, refused -/

theorem test_wellFormed_prefix : Instr.wellFormed (.prefixCb 0x37) = false := by decide

theorem test_wellFormed_row : Instr.wellFormed (.cbSwapA) = true := by decide

/-! ## Decoding: words written out from the encodings of spec/30_encoding.md R139, R140 and each rule -/

theorem test_decode_loads :
    decode [0x78] = .ok (.ldAB, []) ∧ decode [0x46] = .ok (.ldBIndHl, [])
      ∧ decode [0x77] = .ok (.ldIndHlA, []) ∧ decode [0x3E, 0x42] = .ok (.ldAN8 0x42, [])
      ∧ decode [0x36, 0x99] = .ok (.ldIndHlN8 0x99, []) ∧ decode [0x1A] = .ok (.ldAIndDe, []) := by decide

theorem test_decode_more_loads :
    decode [0xF0, 0x44] = .ok (.ldhAIndA8 0x44, []) ∧ decode [0xE2] = .ok (.ldhIndCA, [])
      ∧ decode [0x08, 0x00, 0xC0] = .ok (.ldIndA16Sp 0xC000, []) ∧ decode [0xF9] = .ok (.ldSpHl, [])
      ∧ decode [0xC5] = .ok (.pushBc, []) ∧ decode [0xF1] = .ok (.popAf, []) := by decide

theorem test_decode_alu8 :
    decode [0x80] = .ok (.addAB, []) ∧ decode [0x8B] = .ok (.adcAE, [])
      ∧ decode [0x9C] = .ok (.sbcAH, []) ∧ decode [0xA5] = .ok (.andAL, [])
      ∧ decode [0xB8] = .ok (.cpAB, []) ∧ decode [0xEE, 0x0F] = .ok (.xorAN8 0x0F, [])
      ∧ decode [0x34] = .ok (.incIndHl, []) ∧ decode [0x27] = .ok (.daa, []) := by decide

theorem test_decode_alu16 :
    decode [0x13] = .ok (.incDe, []) ∧ decode [0x3B] = .ok (.decSp, [])
      ∧ decode [0x09] = .ok (.addHlBc, []) ∧ decode [0xE8, 0x02] = .ok (.addSpE8 0x02, [])
      ∧ decode [0xF8, 0x02] = .ok (.ldHlSpE8 0x02, []) := by decide

theorem test_decode_rotates_and_bits :
    decode [0x07] = .ok (.rlca, []) ∧ decode [0xCB, 0x00] = .ok (.cbRlcB, [])
      ∧ decode [0xCB, 0x22] = .ok (.cbSlaD, []) ∧ decode [0xCB, 0x37] = .ok (.cbSwapA, [])
      ∧ decode [0xCB, 0x7C] = .ok (.bit7H, []) ∧ decode [0xCB, 0xBF] = .ok (.res7A, [])
      ∧ decode [0xCB, 0xD8] = .ok (.set3B, []) ∧ decode [0xCB, 0xFE] = .ok (.set7IndHl, []) := by decide

theorem test_decode_control :
    decode [0xC3, 0x50, 0x01] = .ok (.jpA16 0x0150, []) ∧ decode [0x20, 0xFB] = .ok (.jrNzE8 0xFB, [])
      ∧ decode [0xCD, 0x34, 0x12] = .ok (.callA16 0x1234, []) ∧ decode [0xD9] = .ok (.reti, [])
      ∧ decode [0xEF] = .ok (.rst28, []) ∧ decode [0xE9] = .ok (.jpHl, []) := by decide

theorem test_decode_system :
    decode [0x00] = .ok (.nop, []) ∧ decode [0x76] = .ok (.halt, [])
      ∧ decode [0x10, 0x55] = .ok (.stop, []) ∧ decode [0xFB] = .ok (.ei, [])
      ∧ decode [0xF3] = .ok (.di, []) ∧ decode [0xFC] = .ok (.illegalFC, []) := by decide

/-- A byte list that ends too soon is no instruction. -/
theorem test_decode_truncated :
    decode [] = .error .empty ∧ decode [0xCB] = .error .truncated
      ∧ decode [0xC3, 0x50] = .error .truncated := by decide

/-- The table's numbering: a CB row has its first byte in the high half (30_encoding.md R152). -/
theorem test_table_word :
    decodeTableWord 16 0xCB37 = some .cbSwapA ∧ decodeTableWord 8 0x76 = some .halt
      ∧ decodeTableWord 24 0x0150C3 = some (.jpA16 0x0150) := by decide

/-! ## The examples of spec/40_loads.md -/

/-- R164 and R161. -/
theorem test_ld_register :
    (after (boot id [] 0x3E 0x42 0)).map (·.cpu.a) = some 0x42
      ∧ (after (boot (fun c => { c with b := 0x12 }) [] 0x78 0 0)).map (·.cpu.a) = some 0x12 := by decide

/-- R168: HL = 0xC000, [0xC000] = 0x3C. -/
theorem test_ld_a_hli :
    (after (boot (fun c => { c with h := 0xC0, l := 0x00 }) [(0xC000, 0x3C)] 0x2A 0 0)).map
      (fun t => (t.cpu.a, t.hl)) = some (0x3C, 0xC001) := by decide

/-- R173: A = 0x42, `LD [0xC000],A`. -/
theorem test_ld_a16_a :
    (after (boot (fun c => { c with a := 0x42 }) [] 0xEA 0x00 0xC0)).map (·.peek 0xC000)
      = some (some 0x42) := by decide

/-- R176: C = 0x0F, IF stored 0x04, gives A = 0xE4. -/
theorem test_ldh_a_c :
    (after (boot (fun c => { c with c := 0x0F }) [(0xFF0F, 0x04)] 0xF2 0 0)).map (·.cpu.a)
      = some 0xE4 := by decide

/-- R179: SP = 0xFFF8, `LD [0xC000],SP`. -/
theorem test_ld_a16_sp :
    (after (boot (fun c => { c with sp := 0xFFF8 }) [] 0x08 0x00 0xC0)).map
      (fun t => (t.peek 0xC000, t.peek 0xC001)) = some (some 0xF8, some 0xFF) := by decide

/-- R182: SP = 0xFFFE, BC = 0x1234. -/
theorem test_push_bc :
    (after (boot (fun c => { c with b := 0x12, c := 0x34 }) [] 0xC5 0 0)).map
      (fun t => (t.peek 0xFFFD, t.peek 0xFFFC, t.cpu.sp)) = some (some 0x12, some 0x34, 0xFFFC) := by
  decide

/-- R185: [SP] = 0xFF, [SP+1] = 0x12 gives A = 0x12, F = 0xF0. -/
theorem test_pop_af :
    (after (boot (fun c => { c with sp := 0xC000 }) [(0xC000, 0xFF), (0xC001, 0x12)] 0xF1 0 0)).map
      (fun t => (t.cpu.a, t.cpu.f, t.cpu.sp)) = some (0x12, 0xF0, 0xC002) := by decide

/-! ## The examples of spec/41_alu8.md and 42_alu16.md -/

/-- R202: A = 0xFF gives "A=0x00, Z=1, H=1, N=0, C unchanged". -/
theorem test_inc_a :
    (after (boot (fun c => { c with a := 0xFF, f := 0x10 }) [] 0x3C 0 0)).map
      (fun t => (t.cpu.a, t.cpu.f)) = some (0x00, 0xB0) := by decide

/-- R205: [HL] = 0x00 gives 0xFF, Z = 0, N = 1, H = 1. -/
theorem test_dec_hl :
    (after (boot (fun c => { c with h := 0xC0, l := 0x00, f := 0x00 }) [] 0x35 0 0)).map
      (fun t => (t.peek 0xC000, t.cpu.f, t.cpu.cycles)) = some (some 0xFF, 0x60, 12) := by decide

/-- R206, R209: carries out of bits 3 and 7, and the carry coming in. -/
theorem test_add_adc :
    (after (boot (fun c => { c with a := 0x3A, b := 0xC6 }) [] 0x80 0 0)).map
        (fun t => (t.cpu.a, t.cpu.f)) = some (0x00, 0xB0)
      ∧ (after (boot (fun c => { c with a := 0xE1, e := 0x0F, f := 0x10 }) [] 0x8B 0 0)).map
        (fun t => (t.cpu.a, t.cpu.f)) = some (0xF1, 0x20) := by decide

/-- R214, R216: the borrows. -/
theorem test_sub_sbc :
    (after (boot (fun c => { c with a := 0x3E }) [] 0xD6 0x0F 0)).map
        (fun t => (t.cpu.a, t.cpu.f)) = some (0x2F, 0x60)
      ∧ (after (boot (fun c => { c with a := 0x3B, f := 0x10, h := 0xC0, l := 0 }) [(0xC000, 0x4F)]
        0x9E 0 0)).map (fun t => (t.cpu.a, t.cpu.f)) = some (0xEB, 0x70) := by decide

/-- R218, R222, R226, R228. -/
theorem test_logic_and_compare :
    (after (boot (fun c => { c with a := 0x5A, l := 0x3F }) [] 0xA5 0 0)).map
        (fun t => (t.cpu.a, t.cpu.f)) = some (0x1A, 0x20)
      ∧ (after (boot (fun c => { c with a := 0xFF, h := 0xC0, l := 0 }) [(0xC000, 0x8A)] 0xAE 0 0)).map
        (fun t => (t.cpu.a, t.cpu.f)) = some (0x75, 0x00)
      ∧ (after (boot (fun c => { c with a := 0x5A }) [] 0xF6 0x03 0)).map
        (fun t => (t.cpu.a, t.cpu.f)) = some (0x5B, 0x00)
      ∧ (after (boot (fun c => { c with a := 0x3C, h := 0xC0, l := 0 }) [(0xC000, 0x40)] 0xBE 0 0)).map
        (fun t => (t.cpu.a, t.cpu.f)) = some (0x3C, 0x50) := by decide

/-- R230: after 0x19 + 0x28, and after 0x90 + 0x90. -/
theorem test_daa :
    (after (boot (fun c => { c with a := 0x41, f := 0x20 }) [] 0x27 0 0)).map
        (fun t => (t.cpu.a, t.cpu.f)) = some (0x47, 0x00)
      ∧ (after (boot (fun c => { c with a := 0x20, f := 0x10 }) [] 0x27 0 0)).map
        (fun t => (t.cpu.a, t.cpu.f)) = some (0x80, 0x10) := by decide

/-- R231 to R233. -/
theorem test_cpl_scf_ccf :
    (after (boot (fun c => { c with a := 0x35, f := 0x00 }) [] 0x2F 0 0)).map
        (fun t => (t.cpu.a, t.cpu.f)) = some (0xCA, 0x60)
      ∧ (after (boot (fun c => { c with f := 0xE0 }) [] 0x37 0 0)).map (·.cpu.f) = some 0x90
      ∧ (after (boot (fun c => { c with f := 0x70 }) [] 0x3F 0 0)).map (·.cpu.f) = some 0x00 := by decide

/-- R243: HL = 0x8A23 with BC = 0x0605, and doubled. -/
theorem test_add_hl :
    (after (boot (fun c => { c with h := 0x8A, l := 0x23, b := 0x06, c := 0x05, f := 0 }) [] 0x09 0 0)).map
        (fun t => (t.hl, t.cpu.f)) = some (0x9028, 0x20)
      ∧ (after (boot (fun c => { c with h := 0x8A, l := 0x23, f := 0 }) [] 0x29 0 0)).map
        (fun t => (t.hl, t.cpu.f)) = some (0x1446, 0x30) := by decide

/-- R244: a negative e8, with H and C from the unsigned addition; R241: 0x00FF gives 0x0100. -/
theorem test_add_sp_inc_de :
    (after (boot (fun c => { c with sp := 0x0000 }) [] 0xE8 0xFF 0)).map
        (fun t => (t.cpu.sp, t.cpu.f)) = some (0xFFFF, 0x00)
      ∧ (after (boot (fun c => { c with d := 0x00, e := 0xFF }) [] 0x13 0 0)).map (·.pair .de)
        = some 0x0100 := by decide

/-! ## The examples of spec/43_rotate_shift_bit.md -/

/-- R261, R262, R263, R264. -/
theorem test_rotate_a :
    (after (boot (fun c => { c with a := 0x85 }) [] 0x07 0 0)).map (fun t => (t.cpu.a, t.cpu.f))
        = some (0x0B, 0x10)
      ∧ (after (boot (fun c => { c with a := 0x3B }) [] 0x0F 0 0)).map (fun t => (t.cpu.a, t.cpu.f))
        = some (0x9D, 0x10)
      ∧ (after (boot (fun c => { c with a := 0x95, f := 0x10 }) [] 0x17 0 0)).map
        (fun t => (t.cpu.a, t.cpu.f)) = some (0x2B, 0x10)
      ∧ (after (boot (fun c => { c with a := 0x81, f := 0x00 }) [] 0x1F 0 0)).map
        (fun t => (t.cpu.a, t.cpu.f)) = some (0x40, 0x10) := by decide

/-- R274, R278, R282, R287. -/
theorem test_cb :
    (after (boot (fun c => { c with d := 0x80 }) [] 0xCB 0x22 0)).map (fun t => (t.cpu.d, t.cpu.f))
        = some (0x00, 0x90)
      ∧ (after (boot (fun c => { c with a := 0xF1 }) [] 0xCB 0x37 0)).map (fun t => (t.cpu.a, t.cpu.f))
        = some (0x1F, 0x00)
      ∧ (after (boot (fun c => { c with h := 0x80, f := 0 }) [] 0xCB 0x74 0)).map (·.cpu.f) = some 0xA0
      ∧ (after (boot (fun c => { c with h := 0xC0, l := 0x00 }) [] 0xCB 0xFE 0)).map
        (fun t => (t.peek 0xC000, t.cpu.cycles)) = some (some 0x80, 16) := by decide

/-! ## The examples of spec/44_control.md and 45_system.md, with the code at 0x0100 -/

/-- R301, R304, R305: taken and not. -/
theorem test_jumps :
    (after (boot id [] 0xC3 0x50 0x01)).map (·.cpu.pc) = some 0x0150
      ∧ (after (boot id [] 0x18 0x05 0)).map (·.cpu.pc) = some 0x0107
      ∧ (after (boot (fun c => { c with f := 0x00 }) [] 0x20 0xFB 0)).map
        (fun t => (t.cpu.pc, t.cpu.cycles)) = some (0x00FD, 12)
      ∧ (after (boot (fun c => { c with f := 0x80 }) [] 0x20 0xFB 0)).map
        (fun t => (t.cpu.pc, t.cpu.cycles)) = some (0x0102, 8) := by decide

/-- R306, R311: the return address is the one after the instruction. -/
theorem test_call_rst :
    (after (boot id [] 0xCD 0x34 0x12)).map
        (fun t => (t.peek 0xFFFD, t.peek 0xFFFC, t.cpu.sp, t.cpu.pc))
        = some (some 0x01, some 0x03, 0xFFFC, 0x1234)
      ∧ (after (boot id [] 0xEF 0 0)).map (fun t => (t.peek 0xFFFC, t.cpu.pc))
        = some (some 0x01, 0x0028) := by decide

/-- R310: RETI sets IME at once. -/
theorem test_reti :
    (after (boot (fun c => { c with sp := 0xC000 }) [(0xC000, 0x50), (0xC001, 0x01)] 0xD9 0 0)).map
      (fun t => (t.cpu.pc, t.cpu.sp, t.cpu.ime)) = some (0x0150, 0xC002, true) := by decide

/-- R331: HALT with IME = 0 and an interrupt pending does not halt. -/
theorem test_halt_bug :
    (after (boot id [(0xFFFF, 0x01)] 0x76 0 0)).map (fun t => (t.cpu.halted, t.cpu.haltBug))
      = some (false, true) := by decide

/-- R334: EI takes effect after the next instruction. -/
theorem test_ei :
    (after (boot id [] 0xFB 0x00 0x00)).map (fun t => (t.cpu.ime, t.cpu.imeScheduled)) = some (false, true)
      ∧ ((after (boot id [] 0xFB 0x00 0x00)).bind after).map (·.cpu.ime) = some true := by decide

/-- R332, R336, D9: the record has the opcode's address, the fetch's PC increment stays. -/
theorem test_fault_records :
    (faulted (boot id [] 0x10 0 0)).map (fun f => (f.1, f.2.cpu.pc)) = some (.unmodelled .stop 0x0100, 0x0101)
      ∧ (faulted (boot id [] 0xD3 0 0)).map (fun f => (f.1, f.2.cpu.pc))
        = some (.decodeError 0xD3 0x0100, 0x0101) := by decide

/-- R380, R112: what was done before a refused access stays: POP's first read has raised SP, a push its
first byte, and the fetch PC. -/
theorem test_fault_keeps_effects :
    (faulted ({ refusing with cpu := { refusing.cpu with sp := 0x9FFF } }.placeInstr 0xC1 0 0)).map
        (fun f => (f.2.cpu.sp, f.2.cpu.pc)) = some (0xA000, 0x0101)
      ∧ (faulted ({ refusing with cpu := { refusing.cpu with sp := 0xC001, b := 0x12 } }.placeInstr
          0xC5 0 0)).map (fun f => (f.2.peek 0xC000, f.2.cpu.sp, f.2.cpu.pc))
        = some (some 0x12, 0xBFFF, 0x0101) := by decide

/-- R363: the vector of the lowest pending source. -/
theorem test_dispatch :
    (after (boot (fun c => { c with ime := true }) [(0xFFFF, 0x14), (0xFF0F, 0x14)] 0 0 0)).map
      (fun t => (t.cpu.pc, t.io.ifl, t.peek 0xFFFD, t.cpu.cycles))
      = some (0x0050, 0x10, some 0x01, 20) := by decide

/-! ## Reset -/

/-- The reset state is the standard launch's. -/
theorem test_launch_standard : State.launch Launch.standard = .ok State.reset := rfl

/-- 70_reset_and_hazards.md R452. -/
theorem test_reset_af_pc : State.reset.stackPair .af = 0x01B0 ∧ State.reset.cpu.pc = 0x0100 := by decide

/-! ## Witnesses: for each statement with hypotheses, a state and operands that meet them; for a statement
with several clauses, one at each clause's boundary -/

/-- The code at PC, in WRAM, with PC there. -/
def inRam (f : Cpu → Cpu) (x y : Byte) : State :=
  boot (fun c => f { c with pc := 0xC000 }) [(0xC000, x), (0xC001, y)] 0 0 0

theorem witness_DecodeInvertsEncode :
    Instr.wellFormed (.ldDeN16 0x1234) = true ∧ Instr.wellFormed .set7A = true := by decide

theorem witness_StepRunsDecodedInstruction :
    let s := boot id [] 0xC3 0x50 0x01
    s.fetches = true ∧ s.memRead s.cpu.pc = .ok 0xC3 ∧ s.memRead (s.cpu.pc + 1) = .ok 0x50
      ∧ s.memRead (s.cpu.pc + 1 + 1) = .ok 0x01
      ∧ decode [0xC3, 0x50, 0x01] = .ok (.jpA16 0x0150, []) := by decide

/-- Under the HALT bug the operand is the opcode's own byte. -/
theorem witness_StepRunsDecodedInstruction_haltBug :
    let s := boot (fun c => { c with haltBug := true }) [] 0x3E 0x07 0
    s.fetches = true ∧ s.cpu.haltBug = true ∧ s.memRead s.cpu.pc = .ok 0x3E
      ∧ decode [0x3E, 0x3E, 0x00] = .ok (.ldAN8 0x3E, [0x00])
      ∧ (after s).map (fun t => (t.cpu.a, t.cpu.pc)) = some (0x3E, 0x0101) := by decide

theorem witness_HaltTickAndWake :
    (let s := boot (fun c => { c with halted := true }) [] 0 0 0
     s.fault = none ∧ s.cpu.halted = true ∧ s.io.ie &&& s.io.ifl &&& 0x1F = 0)
      ∧ (let s := boot (fun c => { c with halted := true }) [(0xFFFF, 0x01)] 0 0 0
         s.fault = none ∧ s.cpu.halted = true ∧ s.cpu.ime = false
           ∧ s.io.ie &&& s.io.ifl &&& 0x1F ≠ 0) := by decide

/-- SP in plain RAM; under the HALT bug; and with SP = 0x0001, where the push wraps onto IE. -/
theorem witness_InterruptDispatch :
    (let s := boot (fun c => { c with ime := true }) [(0xFFFF, 0x01)] 0 0 0
     s.fault = none ∧ s.cpu.ime = true ∧ s.io.ie &&& s.io.ifl &&& 0x1F ≠ 0
       ∧ s.storable16 (s.cpu.sp - 2) s.cpu.pc = true
       ∧ plainRam (s.cpu.sp - 1) = true ∧ plainRam (s.cpu.sp - 2) = true
       ∧ storeReach s.cart.mbc (s.cpu.sp - 1) 0xC000 = false
       ∧ storeReach s.cart.mbc (s.cpu.sp - 2) 0xC000 = false)
      ∧ (let s := boot (fun c => { c with ime := true, haltBug := true, sp := 0x0001 })
          [(0xFFFF, 0x10), (0xFF0F, 0x10)] 0 0 0
         s.fault = none ∧ s.cpu.ime = true ∧ s.cpu.haltBug = true
           ∧ s.io.ie &&& s.io.ifl &&& 0x1F ≠ 0
           ∧ s.storable16 (s.cpu.sp - 2) (s.cpu.pc - 1) = true)
      ∧ (let s : State := { refusing with
          cpu := { refusing.cpu with ime := true, sp := 0xC000 }, io := { refusing.io with ie := 1 } }
         s.fault = none ∧ s.cpu.ime = true ∧ s.io.ie &&& s.io.ifl &&& 0x1F ≠ 0
           ∧ s.storable16 (s.cpu.sp - 2) s.cpu.pc = false) := by decide

theorem witness_FaultIsFinal :
    ({ State.reset with fault := some (.decodeError 0xD3 0x0100) } : State).fault
        = some (.decodeError 0xD3 0x0100)
      ∧ (faulted (boot id [] 0xD3 0 0)).map (·.1) = some (.decodeError 0xD3 0x0100) := by decide

/-- Each of the three causes: an illegal opcode, STOP, and a refused access, in an instruction and in a
dispatch. -/
theorem witness_FaultCauses :
    (boot id [] 0xFD 0 0).fault = none
      ∧ (faulted (boot id [] 0xFD 0 0)).map (·.1) = some (.decodeError 0xFD 0x0100)
      ∧ (faulted (boot id [] 0x10 0 0)).map (·.1) = some (.unmodelled .stop 0x0100)
      ∧ (faulted { refusing with cpu := { refusing.cpu with pc := 0xA000 } }).map (·.1)
        = some (.unmodelled (.mbc3Select 8) 0xA000)
      ∧ (faulted { refusing with
          cpu := { refusing.cpu with ime := true, sp := 0xC000 }, io := { refusing.io with ie := 1 } }).map
          (·.1) = some (.unmodelled (.mbc3Select 8) 0x0100) := by decide

/-- The shortest and the longest step. -/
theorem witness_StepCycles :
    (after (boot id [] 0x00 0 0)).map (·.cpu.cycles) = some 4
      ∧ (after (boot id [] 0xCD 0x34 0x12)).map (·.cpu.cycles) = some 24 := by decide

/-- NOP, DI, RETI and a second EI as the instruction after EI. -/
theorem witness_EiDelay :
    (let s := inRam id 0xFB 0x00
     s.fetches = true ∧ s.params.eiDelay = true ∧ s.cpu.haltBug = false ∧ s.cpu.ime = false
       ∧ s.cpu.imeScheduled = false ∧ s.memRead s.cpu.pc = .ok 0xFB)
      ∧ ([0x00, 0xF3, 0xD9, 0xFB] : List Byte).all (fun op =>
        ((after (inRam id 0xFB op)).bind fun t => t.peek t.cpu.pc) == some op
          && ((after (inRam id 0xFB op)).bind after).map (·.cpu.ime) == some (op != 0xF3)) = true := by
  decide

/-- A state with an instruction placed meets the invariant, and steps. -/
theorem witness_StepKeepsInvariant :
    (boot id [] 0xFB 0 0).Inv ∧ (after (boot id [] 0xFB 0 0)).isSome = true :=
  ⟨{ flags := by decide, haltOrBug := by decide, haltNotScheduled := by decide, delayOnly := by decide
     statBits := by decide
     ppu := { clock := by decide, line := by decide, vBlank := by decide, frozen := by decide }
     timer := { running := by decide, bounded := by decide }
     bank := by decide, mem := by decide, rom := by decide, ram := by decide, ram4 := by decide
     image := by decide, frame := by decide }, by decide⟩

theorem witness_StepKeepsLaunch :
    (after (boot id [] 0x00 0 0)).isSome = true ∧ 0xFEA0 ≤ (0xFEA0#16).toNat
      ∧ (0xFEFF#16).toNat ≤ 0xFEFF := by decide

theorem witness_OnlyMbc3Refuses :
    State.reset.readable 0xA000 = true ∧ refusing.readable 0x9FFF = true
      ∧ refusing.readable 0xA000 = false ∧ refusing.readable 0xBFFF = false
      ∧ refusing.readable 0xC000 = true ∧ refusing.storable 0xC000 0 = true
      ∧ refusing.storable 0xA000 0 = false ∧ refusing.storable 0xFF46 0xA0 = false
      ∧ refusing.storable 0xFF46 0xBF = false ∧ refusing.storable 0xFF46 0xC0 = true := by decide

/-- Stores in each region, with a byte that the store does not reach. -/
theorem witness_StoreFrame :
    ([0x0000, 0x7FFF, 0x8000, 0xA000, 0xC000, 0xFDFF, 0xFE9F, 0xFEFF, 0xFF40, 0xFF50, 0xFF80, 0xFFFF] :
        List Word).all (fun a =>
      (State.reset.memWrite a 0x5A).toOption.isSome
        && !storeReach State.reset.cart.mbc a 0xFF42) = true := by decide

theorem witness_RamReadsBack :
    ([0x8000, 0x9FFF, 0xC000, 0xDDFF, 0xE000, 0xFDFF, 0xFE9F, 0xFF80, 0xFFFE] : List Word).all (fun a =>
        decide ((0x8000 ≤ a.toNat ∧ a.toNat ≤ 0x9FFF) ∨ (0xC000 ≤ a.toNat ∧ a.toNat ≤ 0xFE9F)
          ∨ (0xFF80 ≤ a.toNat ∧ a.toNat ≤ 0xFFFE))) = true
      ∧ ([0xFEA0, 0xFEFF] : List Word).all (fun a =>
        decide (0xFEA0 ≤ a.toNat ∧ a.toNat ≤ 0xFEFF)) = true := by decide

/-- Each register, at the ends of the range and at each address with a rule of its own; what R35 says a
read gives after a store of 0x5A. -/
theorem witness_IoReadsBack :
    ([(0xFF00, 0xDF), (0xFF01, 0x5A), (0xFF04, 0x00), (0xFF07, 0xFA), (0xFF0F, 0xFA), (0xFF41, 0xDE),
        (0xFF44, 0x00), (0xFF50, 0x5A), (0xFF7F, 0x5A), (0xFFFF, 0x5A)] : List (Word × Byte)).all
      (fun e => ((State.reset.memWrite e.1 0x5A).toOption.bind (·.peek e.1)) == some e.2) = true := by
  decide

theorem witness_OamDmaCopies :
    State.reset.storable 0xFF46 0x00 = true ∧ State.reset.storable 0xFF46 0xFF = true := by decide

theorem witness_BankControl :
    (0x7FFF#16).toNat ≤ 0x7FFF ∧ State.reset.cart.mbc = .romOnly
      ∧ (withMbc (.mbc1 false 1 0 false)).cart.mbc = .mbc1 false 1 0 false
      ∧ (withMbc (.mbc2 false 1)).cart.mbc = .mbc2 false 1
      ∧ (withMbc (.mbc3 false 1 0)).cart.mbc = .mbc3 false 1 0
      ∧ (withMbc (.mbc5 false 1 0)).cart.mbc = .mbc5 false 1 0 := by decide

/-- 20_memory.md R92, at both ends of the range: a written 0 selects bank 1. -/
theorem test_bank_zero_remapped :
    (((withMbc (.mbc1 false 7 0 false)).memWrite 0x2000 0xE0).toOption.map (·.cart.mbc))
        = some (.mbc1 false 1 0 false)
      ∧ (((withMbc (.mbc1 false 7 0 false)).memWrite 0x3FFF 0x00).toOption.map (·.cart.mbc))
        = some (.mbc1 false 1 0 false) := by decide

theorem witness_RomReads :
    (let s : State := { State.reset with io := { State.reset.io with bootEnabled := true } }
     s.io.bootEnabled = true ∧ (0x00FF#16).toNat ≤ 0x00FF ∧ 0x00FF < (0x0100#16).toNat)
      ∧ State.reset.io.bootEnabled = false ∧ State.reset.cart.mbc = .romOnly
      ∧ (0x3FFF#16).toNat < 0x4000 ∧ 0x4000 ≤ (0x4000#16).toNat ∧ (0x7FFF#16).toNat ≤ 0x7FFF := by
  decide

/-- The RAM window's ends; RAM enabled, disabled, and of MBC2. -/
theorem witness_CartridgeRam :
    inCartRam 0xA000 = true ∧ inCartRam 0xBFFF = true
      ∧ (let c := (withMbc (.mbc1 true 1 1 true)).cart
         c.mbc = .mbc1 true 1 1 true ∧ c.ramBankCount ≠ 0
           ∧ 1 % c.ramBankCount * 0x2000 + (0xBFFF - 0xA000) < c.ramSize)
      ∧ (withMbc (.mbc3 true 1 3)).cart.mbc = .mbc3 true 1 3 ∧ (3#8).toNat ≤ 3
      ∧ (withMbc (.mbc5 false 1 0)).cart.mbc = .mbc5 false 1 0
      ∧ (withMbc (.mbc2 true 1)).cart.mbc = .mbc2 true 1 := by decide

theorem witness_LoadFromMemory :
    (Instr.ldAIndBc, [0x0A], word16 State.reset.cpu.b State.reset.cpu.c, Reg8.a, 8) ∈ ([
        (.ldAIndBc, [0x0A], word16 State.reset.cpu.b State.reset.cpu.c, .a, 8)] :
          List (Instr × List Byte × Word × Reg8 × Nat))
      ∧ State.reset.readable (word16 State.reset.cpu.b State.reset.cpu.c) = true
      ∧ refusing.readable 0xA000 = false ∧ effect (.ldAIndA16 0xA000) refusing = none := by decide

theorem witness_StoreByte :
    State.reset.storable (word16 State.reset.cpu.h State.reset.cpu.l) State.reset.cpu.a = true
      ∧ refusing.storable 0xBFFF State.reset.cpu.a = false
      ∧ effect (.ldIndA16A 0xBFFF) refusing = none
      ∧ storeReach State.reset.cart.mbc 0xC000 0xC001 = false := by decide

theorem witness_HlStepTransfers :
    State.reset.readable (word16 State.reset.cpu.h State.reset.cpu.l) = true
      ∧ State.reset.storable (word16 State.reset.cpu.h State.reset.cpu.l) State.reset.cpu.a = true
      ∧ (let s : State := { refusing with cpu := { refusing.cpu with h := 0xA0, l := 0x00 } }
         s.readable (word16 s.cpu.h s.cpu.l) = false
           ∧ s.storable (word16 s.cpu.h s.cpu.l) s.cpu.a = false) := by decide

theorem witness_StoreStackPointer :
    State.reset.storable16 0xC000 State.reset.cpu.sp = true
      ∧ State.reset.storable16 0xFFFF State.reset.cpu.sp = true
      ∧ refusing.storable16 0x9FFF refusing.cpu.sp = false := by decide

theorem witness_PushStores :
    State.reset.storable16 (State.reset.cpu.sp - 2) (State.reset.stackPair .bc) = true
      ∧ plainRam (State.reset.cpu.sp - 1) = true ∧ plainRam (State.reset.cpu.sp - 2) = true
      ∧ (let s : State := { refusing with cpu := { refusing.cpu with sp := 0xA001 } }
         s.storable16 (s.cpu.sp - 2) (s.stackPair .bc) = false) := by decide

theorem witness_PopLoads :
    State.reset.readable16 State.reset.cpu.sp = true ∧ State.reset.readable16 0xFFFF = true
      ∧ refusing.readable16 0x9FFF = false := by decide

theorem witness_StackRoundTrip :
    plainRam (State.reset.cpu.sp - 1) = true ∧ plainRam (State.reset.cpu.sp - 2) = true
      ∧ State.reset.cpu.f &&& 0x0F = 0 ∧ plainRam 0xC000 = true ∧ plainRam 0xDFFF = true
      ∧ plainRam 0xFF80 = true := by decide

/-- The operands of the register and of the immediate forms, and each group of operations. -/
theorem witness_AluArithmetic :
    (Instr.addAB, [0x80#8], State.reset.reg .b, 4) = (.aluReg .add .b, [BitVec.ofNat 8
        (0x80 + 8 * AluOp.add.code + Reg8.b.code)], State.reset.reg .b, 4)
      ∧ (Instr.sbcAN8 0x01, [0xDE#8, 0x01], 0x01#8, 8) = (.aluImm 0x01 .sbc, [BitVec.ofNat 8
        (0xC6 + 8 * AluOp.sbc.code), 0x01], 0x01, 8) := by decide

theorem witness_AluLogicAndCompare :
    (Instr.cpAA, [0xBF#8], State.reset.reg .a, 4) = (.aluReg .cp .a, [BitVec.ofNat 8
        (0x80 + 8 * AluOp.cp.code + Reg8.a.code)], State.reset.reg .a, 4)
      ∧ (Instr.andAN8 0x38, [0xE6#8, 0x38], 0x38#8, 8) = (.aluImm 0x38 .and, [BitVec.ofNat 8
        (0xC6 + 8 * AluOp.and.code), 0x38], 0x38, 8) := by decide

theorem witness_AluMemory :
    State.reset.readable (word16 State.reset.cpu.h State.reset.cpu.l) = true
      ∧ refusing.readable (word16 0xBF 0xFF) = false := by decide

theorem witness_DecimalArithmetic :
    (0x19#8).toNat / 16 ≤ 9 ∧ (0x19#8).toNat % 16 ≤ 9 ∧ (0x99#8).toNat / 16 ≤ 9
      ∧ (0x99#8).toNat % 16 ≤ 9 := by decide

theorem witness_RotateRegister :
    (Instr.rra, [0x1F#8], RotOp.rr) ∈ ([(.rlca, [0x07], .rlc), (.rrca, [0x0F], .rrc), (.rla, [0x17], .rl),
      (.rra, [0x1F], .rr)] : List (Instr × List Byte × RotOp)) := by decide

/-- HL in RAM, with the byte and its new value stored; and HL in a window the MBC3 refuses. -/
theorem witness_ReadModifyWrite :
    let s : State := { State.reset with cpu := { State.reset.cpu with h := 0xC0, l := 0x00 } }
    s.readable (word16 s.cpu.h s.cpu.l) = true ∧ s.memRead (word16 s.cpu.h s.cpu.l) = .ok 0x00
      ∧ s.storable (word16 s.cpu.h s.cpu.l) (BitVec.ofNat 8 ((0 + 255) % 256)) = true
      ∧ refusing.readable (word16 0xA0 0x00) = false
      ∧ refusing.readable 0xFF46 = true ∧ refusing.storable 0xFF46 (BitVec.ofNat 8 (0x9F + 1)) = false := by
  decide

theorem witness_BitTests :
    State.reset.readable (word16 State.reset.cpu.h State.reset.cpu.l) = true
      ∧ refusing.readable (word16 0xA0 0x00) = false := by decide

/-- Each condition, taken and not. -/
theorem witness_Jumps :
    ([Cond.nz, .z, .nc, .c].all fun cc => [State.reset, { State.reset with
        cpu := { State.reset.cpu with f := 0x00 } }].all fun s =>
      decide ((cc, s.cond cc) ∈ [(Cond.nz, !s.flagZ), (.z, s.flagZ), (.nc, !s.flagC), (.c, s.flagC)]))
      = true := by decide

theorem witness_Calls :
    (Cond.nz, false) ∈ [(Cond.nz, !State.reset.flagZ), (.z, State.reset.flagZ), (.nc, !State.reset.flagC),
        (.c, State.reset.flagC)]
      ∧ (Cond.z, true) ∈ [(Cond.nz, !State.reset.flagZ), (.z, State.reset.flagZ), (.nc, !State.reset.flagC),
        (.c, State.reset.flagC)]
      ∧ State.reset.storable16 (State.reset.cpu.sp - 2) State.reset.cpu.pc = true
      ∧ (let s : State := { refusing with cpu := { refusing.cpu with sp := 0xC001 } }
         s.storable16 (s.cpu.sp - 2) s.cpu.pc = false) := by decide

theorem witness_Returns :
    (Cond.nc, false) ∈ [(Cond.nz, !State.reset.flagZ), (.z, State.reset.flagZ), (.nc, !State.reset.flagC),
        (.c, State.reset.flagC)]
      ∧ (Cond.c, true) ∈ [(Cond.nz, !State.reset.flagZ), (.z, State.reset.flagZ), (.nc, !State.reset.flagC),
        (.c, State.reset.flagC)]
      ∧ State.reset.readable16 State.reset.cpu.sp = true ∧ refusing.readable16 0xBFFF = false := by decide

theorem witness_ControlInstructions :
    State.reset.params.eiDelay = true
      ∧ ({ State.reset with params := { Params.reset with eiDelay := false } } : State).params.eiDelay = false
      ∧ (let s : State := { State.reset with io := { State.reset.io with ie := 0x01 } }
         s.cpu.ime = false ∧ s.io.ie &&& s.io.ifl &&& 0x1F ≠ 0)
      ∧ State.reset.io.ie &&& State.reset.io.ifl &&& 0x1F = 0 := by decide

theorem witness_StopInstruction :
    State.reset.params.stopMode = .fault
      ∧ (let s : State := { State.reset with params := { Params.reset with stopMode := .nop2 } }
         s.params.stopMode = .nop2 ∧ s.readable s.cpu.pc = true)
      ∧ refusing.readable 0xA000 = false := by decide

theorem witness_PrefixRunsRow :
    State.reset.cart.mbc.allowsRam = true ∧ (withMbc (.mbc3 true 1 3)).cart.mbc.allowsRam = true := by
  decide

theorem witness_IllegalOpcodesFault :
    (let s := boot id [] 0xD3 0 0
     s.fetches = true ∧ s.cpu.haltBug = false ∧ s.memRead s.cpu.pc = .ok 0xD3)
      ∧ (let s := boot (fun c => { c with haltBug := true }) [] 0xFD 0 0
         s.fetches = true ∧ s.cpu.haltBug = true ∧ s.memRead s.cpu.pc = .ok 0xFD)
      ∧ 0xD3#8 ∈ [0xD3#8, 0xDB, 0xDD, 0xE3, 0xE4, 0xEB, 0xEC, 0xED, 0xF4, 0xFC, 0xFD]
      ∧ 0xFD#8 ∈ [0xD3#8, 0xDB, 0xDD, 0xE3, 0xE4, 0xEB, 0xEC, 0xED, 0xF4, 0xFC, 0xFD] := by decide

/-- TIMA with the timer off; running without an overflow; and over 0xFF, back to TMA. -/
theorem witness_TimerAdvances :
    State.reset.timer.tac.getLsbD 2 = false ∧ (0x05#8).getLsbD 2 = true
      ∧ (0xFE#8).toNat + (15 + 1) / 16 < 256 ∧ 256 ≤ (0xFF#8).toNat + (15 + 1) / 16
      ∧ (let s : State := { State.reset with timer :=
          { Timer.reset with tac := 0x05, tima := 0xFF, tma := 0xAB, timaAcc := 15 } }
         (s.timerAdvance 1).timer.tima = 0xAB ∧ (s.timerAdvance 1).io.ifl = 0x05) := by decide

/-- Inside a mode; the end of each mode; at line 143, and at line 153. -/
theorem witness_ModeTransitions :
    State.reset.ppu.lcdc.getLsbD 7 = true ∧ State.reset.ppu.modeclock < State.reset.ppu.mode.length
      ∧ State.reset.ppu.modeclock + 79 < State.reset.ppu.mode.length
      ∧ (let s : State := { State.reset with ppu := { Ppu.reset with mode := .pixelTransfer, modeclock := 171 } }
         s.ppu.lcdc.getLsbD 7 = true ∧ s.ppu.modeclock < s.ppu.mode.length
           ∧ (s.ppuStep 1).ppu.mode = .hBlank)
      ∧ (let s : State := { State.reset with ppu := { Ppu.reset with mode := .hBlank, ly := 143 } }
         s.ppu.lcdc.getLsbD 7 = true ∧ s.ppu.modeclock < s.ppu.mode.length
           ∧ (s.ppuStep 204).ppu.mode = .vBlank)
      ∧ (let s : State := { State.reset with ppu := { Ppu.reset with mode := .vBlank, ly := 153 } }
         s.ppu.lcdc.getLsbD 7 = true ∧ s.ppu.modeclock < s.ppu.mode.length
           ∧ (s.ppuStep 456).ppu.ly = 0) := by decide

theorem witness_FrameReturns :
    (State.reset.ppu.lcdc.getLsbD 7 = true ∧ State.reset.ppu.mode = .oamScan
      ∧ State.reset.ppu.modeclock = 0 ∧ State.reset.ppu.ly = 0)
      ∧ (let s : State := { State.reset with ppu := { Ppu.reset with mode := .vBlank, ly := 144 } }
         s.ppu.lcdc.getLsbD 7 = true ∧ s.ppu.mode = .vBlank ∧ s.ppu.modeclock = 0 ∧ s.ppu.ly = 144) := by
  decide

/-- Sprites and background off; the window, on its first line at its first column; and the one sprite on
line 0, whose tile 0 has colour 1 in its first column only, not kept where it is not on the line. -/
theorem witness_RenderedLine :
    (let s : State := { State.reset with
        ppu := { Ppu.reset with lcdc := 0xF3, wx := 7, obp0 := 0xE4 }
        mem := [(0x8000, 0x80), (0xFE00, 16), (0xFE01, 8)] }
     (s.ppu.lcdc.getLsbD 0 = true ∧ s.ppu.lcdc.getLsbD 5 = true ∧ s.ppu.wy.toNat ≤ 0
        ∧ s.ppu.wx.toNat ≤ 0 + 7)
      ∧ s.keptSprites 0 = [0] ∧ s.keptSprites 8 = []
      ∧ s.spriteShade 0 0 0 = some 1 ∧ s.spriteShade 0 0 1 = none ∧ s.spriteShade 0 0 8 = none
      ∧ s.pixel 0 0 = 1)
      ∧ State.reset.ppu.lcdc.getLsbD 1 = false ∧ (0x90#8).getLsbD 0 = false
      ∧ State.reset.ppu.lcdc.getLsbD 0 = true ∧ State.reset.ppu.lcdc.getLsbD 5 = false := by decide

theorem witness_LcdSwitch :
    State.reset.ppu.lcdc.getLsbD 7 = (0x80#8).getLsbD 7 ∧ State.reset.ppu.lcdc.getLsbD 7 = true
      ∧ (0x7F#8).getLsbD 7 = false
      ∧ ({ State.reset with ppu := { Ppu.reset with lcdc := 0x11 } } : State).ppu.lcdc.getLsbD 7 = false := by
  decide

theorem witness_HostOperations :
    (boot id [] 0xFB 0 0).Inv ∧ (after (boot id [] 0xFB 0 0)).isSome = true := witness_StepKeepsInvariant

/-- A type of each controller, an unknown one, both launches, and data in canonical form. -/
theorem witness_LaunchBuildsMachine :
    (([0x09, 0x03, 0x06, 0x13, 0x1E] : List Byte).map mbcOfType
        = [some .romOnly, some (.mbc1 false 1 0 false), some (.mbc2 false 1), some (.mbc3 false 1 0),
            some (.mbc5 false 1 0)])
      ∧ mbcOfType 0x04 = none ∧ Launch.standard.bootMode = .postBoot
      ∧ ({ Launch.standard with bootMode := .bootRom [] } : Launch).bootMode = .bootRom []
      ∧ Memory.wf [(0, 0xC3), (0x100, 1)] = true ∧ Cells.wf (w := 4) [(511, 15)] = true := by decide

end Sys2Proof.Tests
end

section
/-! Which reads and stores go through, and which an MBC3 refuses (20_memory.md R69, R112). -/

namespace Sys2Proof.Machine

/-- A controller that does not allow the RAM window is an MBC3 with RAM enabled and `ramsel >= 4`. -/
theorem Mbc.allowsRam_eq_false {m : Mbc} (h : m.allowsRam = false) :
    ∃ bank sel, m = .mbc3 true bank sel ∧ 4 ≤ sel.toNat := by
  cases m with
  | mbc3 en bank sel =>
    simp only [Mbc.allowsRam, Bool.or_eq_false_iff, Bool.not_eq_false', decide_eq_false_iff_not] at h
    obtain ⟨rfl, hs⟩ := h
    exact ⟨bank, sel, rfl, by omega⟩
  | romOnly => cases h
  | mbc1 => cases h
  | mbc2 => cases h
  | mbc5 => cases h

theorem Cart.ramWrite_refused {c : Cart} (a : Nat) (v : Byte) (h : c.mbc.allowsRam = false) :
    ∃ e, c.ramWrite a v = .error e := by
  obtain ⟨bank, sel, hm, hs⟩ := Mbc.allowsRam_eq_false h
  have hb : c.mbc.ramBank = .error (.mbc3Select sel) := by
    simp only [hm, Mbc.ramBank, Bool.not_true, Bool.false_eq_true, if_false]
    rw [if_neg (by omega)]
  exact ⟨.mbc3Select sel, by simp only [Cart.ramWrite, hb]⟩

/-- Where `State.storable` denies a store: the RAM window, or an OAM DMA from there. -/
theorem State.storable_eq_false {s : State} {a : Word} {v : Byte} :
    s.storable a v = false ↔ s.cart.mbc.allowsRam = false
      ∧ (inCartRam a = true ∨ a = 0xFF46 ∧ inCartRam (word16 v 0) = true) := by
  simp only [State.storable, Bool.or_eq_false_iff, Bool.and_eq_false_iff, Bool.not_eq_false',
    Bool.and_eq_true, beq_iff_eq]

/-- A denied store is refused (20_memory.md R64, R112): by the cartridge, or at the copy's first byte. -/
theorem State.memWrite_refused {s : State} {a : Word} {v : Byte} (h : s.storable a v = false) :
    ∃ e, s.memWrite a v = .error e := by
  obtain ⟨hm, ha | ⟨rfl, hv⟩⟩ := State.storable_eq_false.mp h
  · obtain ⟨h1, h2⟩ := (inCartRam_iff a).mp ha
    obtain ⟨e, he⟩ := Cart.ramWrite_refused a.toNat v hm
    refine ⟨s.stop (.unmodelled e s.cpu.opPc), ?_⟩
    rw [State.memWrite, if_neg (by omega), if_neg (by omega), if_pos h2]
    simp only [State.cartRamWrite, he, State.orRaise]
  · have hr : ({ s with io := { s.io with dma := v } } : State).readable
        (word16 v 0 + BitVec.ofNat 16 (160 - (159 + 1))) = false := by
      simp only [State.readable, inCartRam_dma v (show 160 - (159 + 1) < 160 by omega), hv, hm]
      rfl
    obtain ⟨r, hr⟩ := State.memRead_refused hr
    refine ⟨State.stop { s with io := { s.io with dma := v } } r, ?_⟩
    show State.dmaCopy (word16 v 0) (159 + 1) { s with io := { s.io with dma := v } } = _
    rw [State.dmaCopy, hr]

/-- A read goes through exactly where `State.readable` says so. -/
theorem State.memRead_ok_iff {s : State} {a : Word} :
    (∃ v, s.memRead a = .ok v) ↔ s.readable a = true := by
  refine ⟨fun ⟨v, hv⟩ => ?_, State.memRead_ok⟩
  by_contra hr
  obtain ⟨r, hr⟩ := State.memRead_refused (Bool.eq_false_iff.mpr hr)
  simp [hv] at hr

/-- A store goes through exactly where `State.storable` says so. -/
theorem State.memWrite_ok_iff {s : State} {a : Word} {v : Byte} :
    (∃ m, s.memWrite a v = .ok m) ↔ s.storable a v = true := by
  refine ⟨fun ⟨m, hm⟩ => ?_, State.memWrite_ok⟩
  by_contra hs
  obtain ⟨e, he⟩ := State.memWrite_refused (Bool.eq_false_iff.mpr hs)
  simp [hm] at he

/-- Settles O15: a refused access is one the cartridge's RAM bank answers with an error. -/
theorem onlyMbc3Refuses : Obligations.OnlyMbc3Refuses := by
  intro s a v
  refine ⟨State.memRead_ok, fun h => ?_, State.memWrite_ok, fun h => ?_, fun h => ?_⟩
  · obtain ⟨r, hr⟩ := State.memRead_refused h
    exact ⟨r, (State.memRead_error hr).2, hr⟩
  · obtain ⟨e, he⟩ := State.memWrite_refused h
    exact ⟨e, (State.memWrite_faults he).refuses, he⟩
  · obtain ⟨hm, ha⟩ := State.storable_eq_false.mp h
    obtain ⟨bank, sel, hk, hs⟩ := Mbc.allowsRam_eq_false hm
    exact ⟨bank, sel, hk, hs, ha⟩

end Sys2Proof.Machine
end

section
/-! What the renderer draws, in plain arithmetic on the bytes of VRAM and OAM (60_exceptions.md R404,
R405). -/

namespace Sys2Proof.Machine

/-! ## Bits and shades -/

/-- A bit of a byte, as a digit of its value. -/
theorem bit_getLsbD {w : Nat} (v : BitVec w) (i : Nat) : bit (v.getLsbD i) = v.toNat / 2 ^ i % 2 := by
  rw [BitVec.getLsbD, ← Nat.toNat_testBit]
  cases v.toNat.testBit i <;> rfl

/-- A shade is the base-4 digit of the palette at the colour index (10_state.md R44). -/
theorem shade_eq (pal : Byte) (c : Nat) : shade pal c = BitVec.ofNat 2 (pal.toNat / 4 ^ c % 4) := by
  apply BitVec.eq_of_toNat_eq
  simp only [shade, BitVec.toNat_setWidth, BitVec.toNat_ushiftRight, Nat.shiftRight_eq_div_pow,
    BitVec.toNat_ofNat, Nat.pow_mul, Nat.reducePow, Nat.mod_mod]

/-- The even tile below a 16-row sprite's number. -/
theorem toNat_and_0xFE (v : Byte) : (v &&& 0xFE).toNat = v.toNat / 2 * 2 := by
  revert v; decide

/-! ## Tiles and maps -/

theorem State.tilePixel_eq (s : State) (t x y : Nat) :
    s.tilePixel t x y = (s.mem.read (0x8000 + 16 * t + 2 * y + 1)).toNat / 2 ^ (7 - x) % 2 * 2
      + (s.mem.read (0x8000 + 16 * t + 2 * y)).toNat / 2 ^ (7 - x) % 2 := by
  simp only [State.tilePixel, State.vram, State.array, bit_getLsbD, ← Nat.add_assoc]

theorem State.tileNumber_eq (s : State) (e : Byte) :
    s.tileNumber e = if s.ppu.lcdc.getLsbD 4 = true ∨ 128 ≤ e.toNat then e.toNat else 256 + e.toNat := by
  simp only [State.tileNumber, State.lcdcBit]
  by_cases h4 : s.ppu.lcdc.getLsbD 4 = true
  · simp only [h4, if_true, true_or]
  · by_cases he : 128 ≤ e.toNat
    · simp only [h4, he, or_true, if_true, if_neg (Nat.not_lt.mpr he), Bool.false_eq_true, if_false]
    · simp only [h4, he, or_self, Bool.false_eq_true, if_false, if_pos (Nat.lt_of_not_le he)]

theorem State.mapPixel_eq (s : State) (select : Bool) (x y : Nat) :
    s.mapPixel select x y = s.tilePixel (s.tileNumber
      (s.mem.read ((if select then 0x9C00 else 0x9800) + 32 * (y / 8) + x / 8))) (x % 8) (y % 8) := by
  cases select <;>
    simp only [State.mapPixel, State.vram, State.array, ← Nat.add_assoc, if_true, if_false,
      Bool.false_eq_true]

theorem State.windowCovers_iff (s : State) (ly x : Nat) :
    s.windowCovers ly x = true ↔ s.ppu.lcdc.getLsbD 0 = true ∧ s.ppu.lcdc.getLsbD 5 = true
      ∧ s.ppu.wy.toNat ≤ ly ∧ s.ppu.wx.toNat ≤ x + 7 := by
  simp only [State.windowCovers, State.lcdcBit, Bool.and_eq_true, decide_eq_true_eq, and_assoc]

/-! ## The line in the framebuffer -/

/-- A column drawn holds its pixel, and every other key is as it was. -/
theorem State.get_drawColumns (s : State) (ly n : Nat) (f : Cells 2) (k : Nat) :
    (s.drawColumns ly n f).get k
      = if 160 * ly ≤ k ∧ k < 160 * ly + n then s.pixel ly (k - 160 * ly) else f.get k := by
  induction n with
  | zero => rw [if_neg (by omega)]; rfl
  | succ n ih =>
    show ((s.drawColumns ly n f).set (160 * ly + n) (s.pixel ly n)).get k = _
    by_cases hk : k = 160 * ly + n
    · subst hk
      rw [Cells.get_set_same, if_pos (by omega), Nat.add_sub_cancel_left]
    · rw [Cells.get_set_other _ _ hk, ih]
      congr 1
      simp only [eq_iff_iff]
      omega

/-! ## The kept sprites -/

theorem State.spriteOnLine_iff (s : State) (ly n : Nat) :
    s.spriteOnLine ly n = true ↔
      ((s.mem.read (0xFE00 + 4 * n)).toNat : Int) - 16 ≤ ly
        ∧ (ly : Int) < ((s.mem.read (0xFE00 + 4 * n)).toNat : Int) - 16
            + (if s.ppu.lcdc.getLsbD 2 then 16 else 8 : Nat) := by
  show (decide (_ ≤ _) && decide (_ < _)) = true ↔ _
  rw [Bool.and_eq_true, decide_eq_true_eq, decide_eq_true_eq]
  show (s.mem.read (0xFE00 + 4 * n)).toNat ≤ ly + 16
    ∧ ly + 16 < (s.mem.read (0xFE00 + 4 * n)).toNat + (if s.ppu.lcdc.getLsbD 2 then 16 else 8) ↔ _
  omega

theorem State.keptSprites_length_le (s : State) (ly : Nat) : (s.keptSprites ly).length ≤ 10 := by
  simp only [State.keptSprites, List.length_take]
  omega

theorem State.onLine_sorted (s : State) (ly : Nat) :
    ((List.range 40).filter (s.spriteOnLine ly)).Pairwise (· < ·) :=
  List.pairwise_lt_range.filter _

theorem State.keptSprites_sorted (s : State) (ly : Nat) : (s.keptSprites ly).Pairwise (· < ·) :=
  (s.onLine_sorted ly).take

theorem State.mem_keptSprites {s : State} {ly n : Nat} (h : n ∈ s.keptSprites ly) :
    n < 40 ∧ s.spriteOnLine ly n = true := by
  have hf := List.mem_of_mem_take h
  rwa [List.mem_filter, List.mem_range] at hf

/-- A sprite on the line that is not kept comes after ten that are. -/
theorem State.not_mem_keptSprites {s : State} {ly n : Nat} (hn : n < 40)
    (hl : s.spriteOnLine ly n = true) (hk : n ∉ s.keptSprites ly) :
    (s.keptSprites ly).length = 10 ∧ ∀ m ∈ s.keptSprites ly, m < n := by
  have hmem : n ∈ (List.range 40).filter (s.spriteOnLine ly) :=
    List.mem_filter.mpr ⟨List.mem_range.mpr hn, hl⟩
  have hsort := s.onLine_sorted ly
  rw [← List.take_append_drop 10 ((List.range 40).filter (s.spriteOnLine ly))] at hmem hsort
  have hdrop := (List.mem_append.mp hmem).resolve_left hk
  refine ⟨?_, fun m hm => (List.pairwise_append.mp hsort).2.2 m hm n hdrop⟩
  have hlen := List.length_pos_of_mem hdrop
  rw [List.length_drop] at hlen
  simp only [State.keptSprites, List.length_take]
  omega

/-! ## What a sprite draws -/

/-- Sprites drawn from the last to the first leave what the first of them that draws gives. -/
theorem foldl_reverse_getD {α β : Type} (f : α → Option β) (l : List α) (under d : β) :
    l.reverse.foldl (fun b a => (f a).getD b) under
      = (l.find? fun a => (f a).isSome).elim under fun a => (f a).getD d := by
  rw [List.foldl_reverse]
  induction l with
  | nil => rfl
  | cons a l ih =>
    rw [List.foldr_cons, ih, List.find?_cons]
    cases hf : f a with
    | none => rfl
    | some b => simp only [Option.isSome_some, Option.getD_some, Option.elim_some, hf]

/-- A sprite draws nothing outside its eight columns. -/
theorem State.spriteShade_outside {s : State} {ly n x : Nat}
    (h : x + 8 < (s.mem.read (0xFE00 + 4 * n + 1)).toNat
      ∨ (s.mem.read (0xFE00 + 4 * n + 1)).toNat + 8 ≤ x + 8) :
    s.spriteShade ly n x = none := by
  have ho : s.oam (4 * n + 1) = s.mem.read (0xFE00 + 4 * n + 1) := rfl
  rw [State.spriteShade, if_neg (by rw [ho]; omega)]

/-- What a sprite draws in one of its eight columns: the colour of its pixel there, mirrored as its
flip bits say, unless it is transparent or behind the background. -/
theorem State.spriteShade_inside {s : State} {ly n x col : Nat} (hcol : col < 8)
    (hx : x + 8 = (s.mem.read (0xFE00 + 4 * n + 1)).toNat + col) :
    s.spriteShade ly n x =
      let attr := s.mem.read (0xFE00 + 4 * n + 3)
      let number := s.mem.read (0xFE00 + 4 * n + 2)
      let row0 := ly + 16 - (s.mem.read (0xFE00 + 4 * n)).toNat
      let row := if attr.getLsbD 6 then s.spriteHeight - 1 - row0 else row0
      let tile := if s.lcdcBit 2 then number.toNat / 2 * 2 + row / 8 else number.toNat
      let c := s.tilePixel tile (if attr.getLsbD 5 then 7 - col else col) (row % 8)
      if c = 0 ∨ (attr.getLsbD 7 = true ∧ s.bgIndex ly x ≠ 0) then none
      else some (shade (if attr.getLsbD 4 then s.ppu.obp1 else s.ppu.obp0) c) := by
  have ho : s.oam (4 * n + 1) = s.mem.read (0xFE00 + 4 * n + 1) := rfl
  have hc : x + 8 - (s.oam (4 * n + 1)).toNat = col := by rw [ho]; omega
  rw [State.spriteShade, if_pos (by rw [ho]; omega)]
  simp only [hc, toNat_and_0xFE, ite_or]
  rfl

/-- Settles O56, clause by clause from the equations above. -/
theorem renderedLine : Obligations.RenderedLine := by
  intro s ly
  refine ⟨rfl, fun x hx => ?_, fun k hk => ?_, s.keptSprites_length_le ly, s.keptSprites_sorted ly,
    fun n hn => ?_, fun n hn hl => ?_, fun x => ⟨⟨fun hw => ?_, fun h0 hw => ?_, fun h0 => ?_⟩, ?_,
      fun h1 => ?_, fun h1 => ?_, fun n col _ => ⟨State.spriteShade_outside, fun hcol hx => ?_⟩⟩⟩
  · show (s.drawColumns ly 160 s.ppu.frame).get (160 * ly + x) = _
    rw [State.get_drawColumns, if_pos (by omega), Nat.add_sub_cancel_left]
  · show (s.drawColumns ly 160 s.ppu.frame).get k = _
    rw [State.get_drawColumns, if_neg (by omega)]
  · exact ⟨(State.mem_keptSprites hn).1, (s.spriteOnLine_iff ly n).mp (State.mem_keptSprites hn).2⟩
  · exact State.not_mem_keptSprites hn ((s.spriteOnLine_iff ly n).mpr hl)
  · rw [State.bgIndex, if_pos ((s.windowCovers_iff ly x).mpr hw), State.mapPixel_eq, State.tilePixel_eq,
      State.tileNumber_eq]
    rfl
  · rw [State.bgIndex, if_neg (mt (s.windowCovers_iff ly x).mp hw), State.lcdcBit, if_pos h0,
      State.mapPixel_eq, State.tilePixel_eq, State.tileNumber_eq]
    rfl
  · have hoff : ¬s.ppu.lcdc.getLsbD 0 = true := Bool.eq_false_iff.mp h0
    rw [State.bgIndex, if_neg fun hw => hoff ((s.windowCovers_iff ly x).mp hw).1, State.lcdcBit,
      if_neg hoff]
  · rw [State.bgShade, shade_eq]
    rfl
  · rw [State.pixel, State.lcdcBit, if_neg (Bool.eq_false_iff.mp h1)]
  · rw [State.pixel, State.lcdcBit, if_pos h1, foldl_reverse_getD _ _ _ 0]
    cases (s.keptSprites ly).find? fun n => (s.spriteShade ly n x).isSome <;> rfl
  · rw [State.spriteShade_inside hcol hx]
    simp only [shade_eq, State.tilePixel_eq]
    rfl

end Sys2Proof.Machine
end

section
/-! What a store leaves: every byte out of its reach reads as before, and in plain RAM the byte stored is
read back (20_memory.md R55, R57). -/

namespace Sys2Proof.Machine

/-! ## The effect of a store, region by region -/

/-- What a store of `v` at `a` makes of `s`, by the region of `a` (20_memory.md R57). -/
inductive State.Stored (s : State) (a : Word) (v : Byte) : State → Prop where
  | rom (h : a.toNat ≤ 0x7FFF) : s.Stored a v { s with cart := s.cart.control a.toNat v }
  | cartRam {d : Cart} (h : inCartRam a = true) (hd : s.cart.ramWrite a.toNat v = .ok d) :
    s.Stored a v { s with cart := d }
  | array (h : (0x8000 ≤ a.toNat ∧ a.toNat ≤ 0x9FFF) ∨ (0xC000 ≤ a.toNat ∧ a.toNat ≤ 0xFE9F)
      ∨ (0xFF80 ≤ a.toNat ∧ a.toNat ≤ 0xFFFE)) : s.Stored a v (s.setArray (unecho a) v)
  | unusable (h : 0xFEA0 ≤ a.toNat ∧ a.toNat ≤ 0xFEFF) : s.Stored a v s
  | dma {m : State} (h : a.toNat = 0xFF46) (hm : s.writeDma v = .ok m) : s.Stored a v m
  | io (h : 0xFF00 ≤ a.toNat ∧ a.toNat ≤ 0xFF7F) (hd : a.toNat ≠ 0xFF46) :
    s.Stored a v (s.ioStore a.toNat v)
  | ie (h : a.toNat = 0xFFFF) : s.Stored a v { s with io := { s.io with ie := v } }

theorem unecho_of_outside {a : Word} (h : a.toNat < 0xE000 ∨ 0xFDFF < a.toNat) : unecho a = a.toNat := by
  rw [unecho, if_neg (by omega)]

theorem unecho_of_echo {a : Word} (h : 0xE000 ≤ a.toNat ∧ a.toNat ≤ 0xFDFF) :
    unecho a = a.toNat - 0x2000 := by
  rw [unecho, if_pos h]

theorem State.memWrite_stored {s m : State} {a : Word} {v : Byte} (h : s.memWrite a v = .ok m) :
    s.Stored a v m := by
  have hlt := a.isLt
  have harray : (0x8000 ≤ a.toNat ∧ a.toNat ≤ 0x9FFF) ∨ (0xC000 ≤ a.toNat ∧ a.toNat ≤ 0xFE9F)
      ∨ (0xFF80 ≤ a.toNat ∧ a.toNat ≤ 0xFFFE) → a.toNat < 0xE000 ∨ 0xFDFF < a.toNat →
      s.Stored a v (s.setArray a.toNat v) := fun hreg hout => unecho_of_outside hout ▸ .array hreg
  unfold State.memWrite at h
  split at h
  · next h1 => cases h; exact .rom h1
  split at h
  · cases h; exact harray (by omega) (by omega)
  split at h
  · obtain ⟨d, hd, rfl⟩ := State.cartRamWrite_ok h
    exact .cartRam ((inCartRam_iff a).mpr (by omega)) hd
  split at h
  · cases h; exact harray (by omega) (by omega)
  split at h
  · cases h; rw [← unecho_of_echo (by omega)]; exact .array (by omega)
  split at h
  · cases h; exact harray (by omega) (by omega)
  split at h
  · cases h; exact .unusable (by omega)
  split at h
  · unfold State.ioWrite at h
    split at h
    · next hd => exact .dma hd h
    · next hd => cases h; exact .io (by omega) hd
  split at h
  · cases h; exact harray (by omega) (by omega)
  · cases h; exact .ie (by omega)

/-! ## What a read at one address sees -/

/-- `t` holds what a read at `b` sees of `s`. -/
structure State.SameAt (s t : State) (b : Word) : Prop where
  opPc : t.cpu.opPc = s.cpu.opPc
  image : t.params = s.params
  overlay : b.toNat ≤ 0x00FF → t.io.bootEnabled = s.io.bootEnabled
  rom : b.toNat ≤ 0x7FFF → t.cart.romRead b.toNat = s.cart.romRead b.toNat
  ram : inCartRam b = true → t.cart.ramRead b.toNat = s.cart.ramRead b.toNat
  array : t.array (unecho b) = s.array (unecho b)
  io : 0xFF00 ≤ b.toNat → t.ioRead b.toNat = s.ioRead b.toNat
  ie : b.toNat = 0xFFFF → t.io.ie = s.io.ie

theorem State.SameAt.memRead_eq {s t : State} {b : Word} (h : s.SameAt t b) :
    t.memRead b = s.memRead b := by
  have hlt := b.isLt
  have harray : b.toNat < 0xE000 ∨ 0xFDFF < b.toNat → t.array b.toNat = s.array b.toNat := fun hb =>
    unecho_of_outside hb ▸ h.array
  have hboot : (t.io.bootEnabled && decide (b.toNat ≤ 0x00FF))
      = (s.io.bootEnabled && decide (b.toNat ≤ 0x00FF)) := by
    by_cases hb : b.toNat ≤ 0x00FF
    · rw [h.overlay hb]
    · simp only [hb, decide_false, Bool.and_false]
  unfold State.memRead
  rw [hboot, h.image]
  split
  · rfl
  split
  · next hb => rw [h.rom hb]
  split
  · rw [harray (by omega)]
  split
  · rw [h.ram ((inCartRam_iff b).mpr (by omega))]
    simp only [State.orRaise, h.opPc]
  split
  · rw [harray (by omega)]
  split
  · rw [← unecho_of_echo (by omega), h.array]
  split
  · rw [harray (by omega)]
  split
  · rw [h.io (by omega)]
  split
  · rw [harray (by omega)]
  · rw [h.ie (by omega)]

/-- A byte of the flat array written elsewhere. -/
theorem State.setArray_sameAt (s : State) {k : Nat} (v : Byte) {b : Word} (h : unecho b ≠ k) :
    s.SameAt (s.setArray k v) b where
  opPc := rfl
  image := rfl
  overlay _ := rfl
  rom _ := rfl
  ram _ := rfl
  array := State.array_setArray_other s v h
  io hb := by
    have hk : b.toNat ≠ k := by rwa [unecho_of_outside (by omega)] at h
    unfold State.ioRead
    split
    case h_22 => exact State.array_setArray_other s v hk
    all_goals rfl
  ie _ := rfl

/-- A cartridge whose ROM and RAM windows read the same. -/
theorem State.setCart_sameAt (s : State) {d : Cart} {b : Word}
    (rom : b.toNat ≤ 0x7FFF → d.romRead b.toNat = s.cart.romRead b.toNat)
    (ram : inCartRam b = true → d.ramRead b.toNat = s.cart.ramRead b.toNat) :
    s.SameAt { s with cart := d } b :=
  ⟨rfl, rfl, fun _ => rfl, rom, ram, rfl, fun _ => rfl, fun _ => rfl⟩

/-! ## A store out of reach -/

/-- A write of LCDC leaves every register but LCDC, the mode, LY and the mode's clock. -/
theorem Ppu.writeLcdc_eq (p : Ppu) (v : Byte) :
    p.writeLcdc v = { p with
      lcdc := (p.writeLcdc v).lcdc, mode := (p.writeLcdc v).mode, ly := (p.writeLcdc v).ly
      modeclock := (p.writeLcdc v).modeclock } := by
  unfold Ppu.writeLcdc
  split
  · rfl
  split <;> rfl

/-- An I/O register reads as before where a store at another does not reach it. -/
theorem State.ioRead_ioStore_other (s : State) {a b : Nat} (v : Byte) (hab : b ≠ a)
    (hlcd : a = 0xFF40 → b ≠ 0xFF41 ∧ b ≠ 0xFF44) : (s.ioStore a v).ioRead b = s.ioRead b := by
  unfold State.ioStore
  split
  case h_9 =>
    obtain ⟨hstat, hly⟩ := hlcd rfl
    rw [Ppu.writeLcdc_eq]
    unfold State.ioRead
    split <;> trivial
  case h_21 =>
    unfold State.ioRead
    split
    case h_22 => exact State.array_setArray_other s v hab
    all_goals rfl
  all_goals
    unfold State.ioRead
    split <;> trivial

/-- An address has at most one place in the RAM buffer's bank. -/
theorem Cart.ramIndex_ne {c : Cart} {rb a b i j : Nat} (ha : 0xA000 ≤ a) (hb : 0xA000 ≤ b) (hab : b ≠ a)
    (hi : c.ramIndex rb a = some i) (hj : c.ramIndex rb b = some j) : j ≠ i := by
  unfold Cart.ramIndex at hi hj
  split at hi
  · cases hi
  · next hc =>
    simp only [if_neg hc, Option.ite_none_right_eq_some, Option.some.injEq] at hi hj
    omega

/-- The RAM window reads as before where a store in it does not reach: MBC2's entries repeat every 512
bytes (20_memory.md R103). -/
theorem Cart.ramRead_ramWrite_other {c d : Cart} {a b : Nat} {v : Byte} (h : c.ramWrite a v = .ok d)
    (ha : 0xA000 ≤ a) (hb : 0xA000 ≤ b) (hab : b ≠ a) (hab4 : c.mbc.hasRam4 = true → b % 512 ≠ a % 512) :
    d.ramRead b = c.ramRead b := by
  unfold Cart.ramWrite at h
  split at h
  · cases h
  · cases h; rfl
  · next rb hbank =>
    split at h
    · next h4 =>
      cases h
      have hne : ram4Index b ≠ ram4Index a := by
        have := hab4 h4
        simp only [ram4Index]
        omega
      simp only [Cart.ramRead, hbank, h4, if_true, Cells.get_set_other c.ram4 _ hne]
    · next h4 =>
      split at h
      · next i hi =>
        cases h
        have hidx : Cart.ramIndex { c with ram := c.ram.write i v } rb b = c.ramIndex rb b := rfl
        simp only [Cart.ramRead, hbank, h4, hidx]
        cases hj : c.ramIndex rb b with
        | none => rfl
        | some j => simp only [Memory.read_write_other c.ram v (Cart.ramIndex_ne ha hb hab hi hj)]
      · cases h; rfl

/-- The copy of an OAM DMA leaves the flat array outside OAM. -/
theorem State.dmaCopy_array_other {base : Word} {n : Nat} {s t : State} (hn : n ≤ 160)
    (h : State.dmaCopy base n s = .ok t) {k : Nat} (hk : ¬(0xFE00 ≤ k ∧ k ≤ 0xFE9F)) :
    t.array k = s.array k := by
  induction n generalizing s with
  | zero => cases h; rfl
  | succ n ih =>
    simp only [State.dmaCopy] at h
    split at h
    · exact (ih (by omega) h).trans (State.array_setArray_other s _ (by omega))
    · cases h

/-- An OAM DMA leaves everything but DMA and OAM. -/
theorem State.writeDma_sameAt {s m : State} {v : Byte} (h : s.writeDma v = .ok m) {b : Word}
    (hb : b.toNat ≠ 0xFF46 ∧ ¬(0xFE00 ≤ b.toNat ∧ b.toNat ≤ 0xFE9F)) : s.SameAt m b := by
  obtain ⟨hdma, hoam⟩ := hb
  have harr : ∀ k, ¬(0xFE00 ≤ k ∧ k ≤ 0xFE9F) → m.array k = s.array k := fun k hk =>
    State.dmaCopy_array_other (Nat.le_refl 160) h hk
  rw [State.dmaCopy_array h]
  refine ⟨rfl, rfl, fun _ => rfl, fun _ => rfl, fun _ => rfl, harr _ ?_, fun hio => ?_, fun _ => rfl⟩
  · unfold unecho
    split <;> omega
  · unfold State.ioRead
    split
    case h_22 => exact harr _ hoam
    case h_15 => contradiction
    all_goals rfl

theorem State.SameAt.refl (s : State) (b : Word) : s.SameAt s b :=
  ⟨rfl, rfl, fun _ => rfl, fun _ => rfl, fun _ => rfl, rfl, fun _ => rfl, fun _ => rfl⟩

/-- What a store in the I/O page leaves: the cartridge, IE, the boot overlay but for BOOT, and every other
byte of the flat array. -/
theorem State.ioStore_leaves (s : State) (a : Nat) (v : Byte) :
    (s.ioStore a v).cart = s.cart ∧ (s.ioStore a v).io.ie = s.io.ie
      ∧ (a ≠ 0xFF50 → (s.ioStore a v).io.bootEnabled = s.io.bootEnabled)
      ∧ ∀ k, k ≠ a → (s.ioStore a v).array k = s.array k := by
  unfold State.ioStore
  split
  case h_20 => exact ⟨rfl, rfl, fun h => absurd rfl h, fun _ _ => rfl⟩
  case h_21 => exact ⟨rfl, rfl, fun _ => rfl, fun _ hk => State.array_setArray_other s v hk⟩
  all_goals exact ⟨rfl, rfl, fun _ => rfl, fun _ _ => rfl⟩

/-- A store at an I/O register but DMA leaves what a read elsewhere sees; LCDC reaches STAT and LY, BOOT
the overlay. -/
theorem State.ioStore_sameAt (s : State) {a : Nat} {b : Word} (v : Byte) (ha : 0xFF00 ≤ a)
    (hab : b.toNat ≠ a) (hlcd : a = 0xFF40 → b.toNat ≠ 0xFF41 ∧ b.toNat ≠ 0xFF44)
    (hboot : a = 0xFF50 → ¬b.toNat ≤ 0x00FF) : s.SameAt (s.ioStore a v) b := by
  obtain ⟨hcart, hie, hbe, harr⟩ := s.ioStore_leaves a v
  have hf := s.ioStore_storeFrame v (show 0xFEFF < a by omega)
  refine ⟨by rw [hf.cpu], hf.params, fun hb => hbe fun h => hboot h hb, fun _ => by rw [hcart],
    fun _ => by rw [hcart], harr _ ?_, fun _ => s.ioRead_ioStore_other v hab hlcd, fun _ => hie⟩
  unfold unecho
  split <;> omega

/-- What is out of reach of a store in the I/O page, or of IE. -/
theorem storeReach_io {m : Mbc} {a b : Word} (ha : 0xFF00 ≤ a.toNat) (h44 : a.toNat ≠ 0xFF44)
    (hr : storeReach m a b = false) :
    b.toNat ≠ a.toNat ∧ (a.toNat = 0xFF40 → b.toNat ≠ 0xFF41 ∧ b.toNat ≠ 0xFF44)
      ∧ (a.toNat = 0xFF46 → ¬(0xFE00 ≤ b.toNat ∧ b.toNat ≤ 0xFE9F))
      ∧ (a.toNat = 0xFF50 → ¬b.toNat ≤ 0x00FF) := by
  have hc : ¬inCartRam a = true := fun hc => by
    have := (inCartRam_iff a).mp hc
    omega
  have toNat_ne : ∀ c : Word, (b == c) = false → b.toNat ≠ c.toNat := fun c h hb =>
    beq_eq_false_iff_ne.mp h (BitVec.eq_of_toNat_eq hb)
  rw [storeReach, if_neg (by omega), if_neg hc] at hr
  split at hr
  · next h =>
    simp only [Bool.or_eq_false_iff] at hr
    obtain ⟨⟨h40, h41⟩, h44⟩ := hr
    exact ⟨h ▸ toNat_ne _ h40, fun _ => ⟨toNat_ne _ h41, toNat_ne _ h44⟩, by omega, by omega⟩
  split at hr
  · next h =>
    rw [Bool.or_eq_false_iff, decide_eq_false_iff_not] at hr
    exact ⟨h ▸ toNat_ne _ hr.1, by omega, fun _ => hr.2, by omega⟩
  split at hr
  · next h =>
    rw [Bool.or_eq_false_iff, decide_eq_false_iff_not] at hr
    exact ⟨h ▸ toNat_ne _ hr.1, by omega, by omega, fun _ => hr.2⟩
  rw [if_neg (by omega), beq_eq_false_iff_ne] at hr
  exact ⟨fun hab => hr (by rw [BitVec.eq_of_toNat_eq hab]), by omega, by omega, by omega⟩

/-- Where a store does not reach, a read sees what it saw. -/
theorem State.Stored.sameAt {s m : State} {a b : Word} {v : Byte} (h : s.Stored a v m)
    (hr : storeReach s.cart.mbc a b = false) : s.SameAt m b := by
  have hlt := b.isLt
  cases h with
  | rom h =>
    rw [storeReach, if_pos h, Bool.and_eq_false_iff, bne_eq_false_iff_eq, Bool.or_eq_false_iff,
      decide_eq_false_iff_not] at hr
    obtain hm | ⟨hrom, hram⟩ := hr
    · have hc : s.cart.control a.toNat v = s.cart := by
        simp only [Cart.control, hm, Mbc.control]
        rw [← hm]
      rw [hc]
      exact s.setCart_sameAt (fun _ => rfl) (fun _ => rfl)
    · exact s.setCart_sameAt (fun hb => absurd hb hrom) (fun hb => absurd hb (by simp [hram]))
  | @cartRam d h hd =>
    have ha := (inCartRam_iff a).mp h
    rw [storeReach, if_neg (by omega), if_pos h] at hr
    refine s.setCart_sameAt (fun hb => ?_) (fun hb => ?_)
    · rw [Cart.ramWrite_frame hd]
      rfl
    · have hb' := (inCartRam_iff b).mp hb
      rw [hb, Bool.true_and] at hr
      refine Cart.ramRead_ramWrite_other hd ha.1 hb'.1 (fun hab => ?_) (fun h4 hab => ?_)
      · simp [BitVec.eq_of_toNat_eq hab] at hr
      · simp [h4, hab] at hr
  | array h =>
    have hc : ¬inCartRam a = true := fun hc => by
      have := (inCartRam_iff a).mp hc
      omega
    rw [storeReach, if_neg (by omega), if_neg hc, if_neg (by omega), if_neg (by omega),
      if_neg (by omega), if_neg (by omega), beq_eq_false_iff_ne] at hr
    exact s.setArray_sameAt v hr
  | unusable h => exact .refl s b
  | dma h hm =>
    obtain ⟨hne, -, hoam, -⟩ := storeReach_io (by omega) (by omega) hr
    exact State.writeDma_sameAt hm ⟨h ▸ hne, hoam h⟩
  | io h hd =>
    by_cases h44 : a.toNat = 0xFF44
    · rw [h44]
      exact .refl s b
    · obtain ⟨hne, hlcd, -, hboot⟩ := storeReach_io h.1 h44 hr
      exact s.ioStore_sameAt v (by omega) hne hlcd hboot
  | ie h =>
    obtain ⟨hne, -⟩ := storeReach_io (by omega) (by omega) hr
    exact ⟨rfl, rfl, fun _ => rfl, fun _ => rfl, fun _ => rfl, rfl, fun _ => rfl,
      fun hb => absurd (hb.trans h.symm) hne⟩

/-- A store leaves every byte out of its reach. -/
theorem State.memRead_memWrite_other {s m : State} {a b : Word} {v : Byte} (h : s.memWrite a v = .ok m)
    (hr : storeReach s.cart.mbc a b = false) : m.memRead b = s.memRead b :=
  ((State.memWrite_stored h).sameAt hr).memRead_eq

/-! ## Reading plain RAM back -/

theorem plainRam_iff (a : Word) : plainRam a = true ↔
    (0xC000 ≤ a.toNat ∧ a.toNat ≤ 0xDFFF) ∨ (0xFF80 ≤ a.toNat ∧ a.toNat ≤ 0xFFFE) := by
  simp only [plainRam, Bool.or_eq_true, decide_eq_true_eq]

/-- A store in plain RAM is a write of its own byte of the flat array. -/
theorem State.memWrite_plainRam {s : State} {a : Word} (v : Byte) (h : plainRam a = true) :
    s.memWrite a v = .ok (s.setArray a.toNat v) := by
  obtain h | h := (plainRam_iff a).mp h
  · rw [State.memWrite, if_neg (by omega), if_neg (by omega), if_neg (by omega), if_pos h.2]
  · rw [State.memWrite, if_neg (by omega), if_neg (by omega), if_neg (by omega), if_neg (by omega),
      if_neg (by omega), if_neg (by omega), if_neg (by omega), if_neg (by omega), if_pos h.2]

/-- A read of plain RAM is its byte of the flat array. -/
theorem State.memRead_plainRam {s : State} {a : Word} (h : plainRam a = true) :
    s.memRead a = .ok (s.array a.toNat) := by
  have hb : ¬(s.io.bootEnabled && decide (a.toNat ≤ 0x00FF)) = true := by
    have := (plainRam_iff a).mp h
    rw [Bool.and_eq_true, decide_eq_true_eq]
    omega
  rw [State.memRead, if_neg hb]
  obtain h | h := (plainRam_iff a).mp h
  · rw [if_neg (by omega), if_neg (by omega), if_neg (by omega), if_pos h.2]
  · rw [if_neg (by omega), if_neg (by omega), if_neg (by omega), if_neg (by omega),
      if_neg (by omega), if_neg (by omega), if_neg (by omega), if_pos h.2]

end Sys2Proof.Machine
end

section
/-! Stack transfers and the instructions that make them: the two slots a push stores, the two a pop reads,
and where either is refused (00_scope.md R11, R13). -/

namespace Sys2Proof.Machine

/-! ## Two stores at neighbours -/

/-- Whether a store at the address next to one just stored is allowed was settled before it. -/
theorem State.storable_memWrite {s m : State} {a b : Word} {v w : Byte} (h : s.memWrite a v = .ok m)
    (hab : b = a + 1 ∨ b = a - 1) : m.storable b w = s.storable b w := by
  cases hb : s.storable b w with
  | true => exact State.storable_next h hab hb
  | false =>
    obtain ⟨hm, hw⟩ := State.storable_eq_false.mp hb
    have ha : ¬a.toNat ≤ 0x7FFF := fun ha => by
      have hl := a.isLt
      have hn : ¬(0xA000 ≤ b.toNat ∧ b.toNat ≤ 0xBFFF) ∧ b.toNat ≠ 0xFF46 := by
        rcases hab with rfl | rfl
        · rw [toNat_succ]; omega
        · rw [toNat_pred]; omega
      exact hw.elim (fun hc => hn.1 ((inCartRam_iff b).mp hc)) fun hc => hn.2 (by rw [hc.1]; rfl)
    exact State.storable_eq_false.mpr ⟨by rw [State.memWrite_mbc_same h ha, hm], hw⟩

/-- What two stores leave: every byte out of reach of both. -/
theorem State.memRead_memWrite_twice {s m₁ m₂ : State} {a b c : Word} {v w : Byte}
    (h₁ : s.memWrite a v = .ok m₁) (h₂ : m₁.memWrite b w = .ok m₂)
    (ha : storeReach s.cart.mbc a c = false) (hb : storeReach s.cart.mbc b c = false) :
    m₂.memRead c = s.memRead c := by
  rw [State.memRead_memWrite_other h₂ (by rw [State.memWrite_storeReach h₁, hb]),
    State.memRead_memWrite_other h₁ ha]

/-- A store of a word is refused exactly where one of its bytes is. -/
theorem State.memWrite16_refused {s : State} {a v : Word} (h : s.storable16 a v = false) :
    ∃ e, s.memWrite16 a v = .error e := by
  cases hw : s.memWrite16 a v with
  | error e => exact ⟨e, rfl⟩
  | ok t =>
    obtain ⟨m, h1, h2⟩ := State.memWrite16_ok_iff.mp hw
    have hb := State.memWrite_ok_iff.mp ⟨t, h2⟩
    rw [State.storable_memWrite h1 (.inl rfl)] at hb
    rw [State.storable16, State.memWrite_ok_iff.mp ⟨m, h1⟩, hb] at h
    cases h

/-! ## A push -/

/-- The two stores of a push of `v`: the states after each, what both leave, and in plain RAM the bytes
pushed (00_scope.md R13). -/
structure State.Pushed (s : State) (v : Word) (m₁ m₂ : State) : Prop where
  high : s.memWrite (s.cpu.sp - 1) (hiByte v) = .ok m₁
  low : m₁.memWrite (s.cpu.sp - 2) (loByte v) = .ok m₂

theorem State.Pushed.cpu {s m₁ m₂ : State} {v : Word} (h : s.Pushed v m₁ m₂) : m₂.cpu = s.cpu :=
  (State.memWrite_storeFrame h.low).cpu.trans (State.memWrite_storeFrame h.high).cpu

/-- A push leaves every byte out of reach of its two stores. -/
theorem State.Pushed.memRead_other {s m₁ m₂ : State} {v : Word} (h : s.Pushed v m₁ m₂) {b : Word}
    (hi : storeReach s.cart.mbc (s.cpu.sp - 1) b = false)
    (lo : storeReach s.cart.mbc (s.cpu.sp - 2) b = false) : m₂.memRead b = s.memRead b :=
  State.memRead_memWrite_twice h.high h.low hi lo

/-- A push in plain RAM reads back: neither slot is the other. -/
theorem State.Pushed.memRead_slots {s m₁ m₂ : State} {v : Word} (h : s.Pushed v m₁ m₂)
    (hi : plainRam (s.cpu.sp - 1) = true) (lo : plainRam (s.cpu.sp - 2) = true) :
    m₂.memRead (s.cpu.sp - 1) = .ok (hiByte v) ∧ m₂.memRead (s.cpu.sp - 2) = .ok (loByte v) := by
  obtain ⟨h₁, h₂⟩ := h
  rw [State.memWrite_plainRam _ hi] at h₁
  cases h₁
  rw [State.memWrite_plainRam _ lo] at h₂
  cases h₂
  have hne : (s.cpu.sp - 1).toNat ≠ (s.cpu.sp - 2).toNat := by
    rw [sub_two, toNat_pred (s.cpu.sp - 1)]
    have := (s.cpu.sp - 1).isLt
    omega
  rw [State.memRead_plainRam hi, State.memRead_plainRam lo, State.array_setArray_other _ _ hne,
    State.array_setArray_same, State.array_setArray_same]
  exact ⟨rfl, rfl⟩

/-- So in the state a push leads to, whatever it does to the CPU but for the pc a refusal records. -/
theorem State.Pushed.memory {s m₁ m₂ : State} {v : Word} (h : s.Pushed v m₁ m₂) {c : Cpu}
    (hc : c.opPc = s.cpu.opPc) :
    (∀ b, storeReach s.cart.mbc (s.cpu.sp - 1) b = false → storeReach s.cart.mbc (s.cpu.sp - 2) b = false →
        ({ m₂ with cpu := c } : State).memRead b = s.memRead b)
      ∧ (plainRam (s.cpu.sp - 1) = true → plainRam (s.cpu.sp - 2) = true →
        ({ m₂ with cpu := c } : State).memRead (s.cpu.sp - 1) = .ok (hiByte v)
          ∧ ({ m₂ with cpu := c } : State).memRead (s.cpu.sp - 2) = .ok (loByte v)) := by
  have hread : ∀ b, ({ m₂ with cpu := c } : State).memRead b = m₂.memRead b := fun b =>
    State.memRead_cpu m₂ c b (by rw [hc, h.cpu])
  simp only [hread]
  exact ⟨fun b => h.memRead_other, h.memRead_slots⟩

/-- A push whose two stores are allowed makes them and lowers SP by 2. -/
theorem State.push16_pushed {s : State} {v : Word} (h : s.storable16 (s.cpu.sp - 2) v = true) :
    ∃ m₁ m₂, s.Pushed v m₁ m₂ ∧ s.push16 v = .ok (m₂.setSp (s.cpu.sp - 2)) := by
  obtain ⟨t, ht⟩ := State.push16_ok h
  obtain ⟨m₁, m₂, h1, h2, rfl⟩ := State.push16_ok_iff.mp ht
  exact ⟨m₁, m₂, ⟨h1, h2⟩, ht⟩

theorem sub_two_succ (a : Word) : a - 2 + 1 = a - 1 := by
  rw [sub_two, BitVec.sub_add_cancel]

/-- A push one of whose stores is denied is refused. -/
theorem State.push16_refused {s : State} {v : Word} (h : s.storable16 (s.cpu.sp - 2) v = false) :
    ∃ e, s.push16 v = .error e := by
  cases hp : s.push16 v with
  | error e => exact ⟨e, rfl⟩
  | ok t =>
    obtain ⟨m₁, m₂, h1, h2, -⟩ := State.push16_ok_iff.mp hp
    have hlo := State.memWrite_ok_iff.mp ⟨m₂, h2⟩
    rw [State.storable_memWrite h1 (.inr (sub_two _))] at hlo
    rw [State.storable16, sub_two_succ, hlo, State.memWrite_ok_iff.mp ⟨m₁, h1⟩] at h
    cases h

/-! ## A pop -/

/-- A pop whose two reads are allowed reads them and raises SP by 2. -/
theorem State.pop16_read {s : State} (h : s.readable16 s.cpu.sp = true) :
    ∃ lo hi, s.memRead s.cpu.sp = .ok lo ∧ s.memRead (s.cpu.sp + 1) = .ok hi
      ∧ s.pop16 = .ok (word16 hi lo, s.setSp (s.cpu.sp + 2)) := by
  rw [State.readable16, Bool.and_eq_true] at h
  obtain ⟨lo, hlo⟩ := State.memRead_ok h.1
  obtain ⟨hi, hhi⟩ := State.memRead_ok h.2
  exact ⟨lo, hi, hlo, hhi, State.pop16_ok_iff.mpr ⟨lo, hi, hlo, hhi, rfl, rfl⟩⟩

/-- A pop one of whose reads is denied is refused. -/
theorem State.pop16_refused {s : State} (h : s.readable16 s.cpu.sp = false) :
    ∃ e, s.pop16 = .error e := by
  cases hp : s.pop16 with
  | error e => exact ⟨e, rfl⟩
  | ok r =>
    obtain ⟨lo, hi, hlo, hhi, -⟩ := State.pop16_ok_iff.mp hp
    rw [State.readable16, State.memRead_ok_iff.mp ⟨lo, hlo⟩, State.memRead_ok_iff.mp ⟨hi, hhi⟩] at h
    cases h

/-! ## Writing a register pair -/

/-- Reading a pair of the rr2 table after writing it: F loses its low nibble (10_state.md R22, R23). -/
theorem State.stackPair_setStackPair (s : State) (p : StackPair) (v : Word) :
    (s.setStackPair p v).stackPair p
      = word16 (hiByte v) (if p = .af then loByte v &&& 0xF0 else loByte v) := by
  cases p <;> rfl

theorem State.setStackPair_cpu_f (s : State) {p : StackPair} (v : Word) (hp : p ≠ .af) :
    (s.setStackPair p v).cpu.f = s.cpu.f := by
  cases p with
  | af => contradiction
  | bc => rfl
  | de => rfl
  | hl => rfl

theorem State.reg_setPair_other (s : State) {p : Pair} (v : Word) {r : Reg8} (hr : r ∉ pairRegs p) :
    (s.setPair p v).reg r = s.reg r := by
  have hpair : ∀ hi lo : Reg8, r ∉ [hi, lo] →
      ((s.setReg hi (hiByte v)).setReg lo (loByte v)).reg r = s.reg r := fun hi lo h => by
    rw [List.mem_cons, List.mem_singleton, not_or] at h
    rw [State.reg_setReg_other _ _ h.2, State.reg_setReg_other _ _ h.1]
  cases p with
  | bc => exact hpair .b .c hr
  | de => exact hpair .d .e hr
  | hl => exact hpair .h .l hr
  | sp => exact State.setSp_reg s v r

/-- Writing a pair of the rr2 table changes the registers it is made of. -/
theorem State.setStackPair_onlyRegs (s : State) (p : StackPair) (v : Word) (n : Nat) :
    s.OnlyRegs ((s.setStackPair p v).setCycles n) (stackPairRegs p) where
  others r hr := by
    show (s.setStackPair p v).reg r = s.reg r
    cases p with
    | bc => exact s.reg_setPair_other v hr
    | de => exact s.reg_setPair_other v hr
    | hl => exact s.reg_setPair_other v hr
    | af =>
      rw [State.setStackPair, State.setF_reg, State.reg_setReg_other _ _ (List.mem_singleton.not.mp hr)]
  rest := by cases p <;> rfl

/-! ## Instructions by family -/

theorem exec_pushPair (p : StackPair) (s : State) : exec (.pushPair p) s = pushPair p s := by
  cases p <;> rfl

theorem exec_popPair (p : StackPair) (s : State) : exec (.popPair p) s = popPair p s := by
  cases p <;> rfl

theorem exec_aluHl (op : AluOp) (s : State) : exec (.aluHl op) s = aluMem op s := by
  cases op <;> rfl

theorem exec_aluImm (op : AluOp) (n : Byte) (s : State) : exec (.aluImm n op) s = aluImm op n s := by
  cases op <;> rfl

theorem exec_callCond (cc : Cond) (a : Word) (s : State) : exec (.callCond a cc) s = callIf cc a s := by
  cases cc <;> rfl

theorem exec_retCond (cc : Cond) (s : State) : exec (.retCond cc) s = returnIf cc s := by
  cases cc <;> rfl

theorem exec_restart (n : Fin 8) (s : State) :
    exec (.restart n) s = callTo 16 (BitVec.ofNat 16 (8 * n.val)) s := by
  fin_cases n <;> rfl

/-- A return is a pop of PC that keeps the interrupt bits. -/
theorem return16_eq (s : State) (n : Nat) :
    return16 n s = andThen s.pop16 fun r =>
      done n ((r.2.setPc r.1).setIme s.cpu.ime s.cpu.imeScheduled) := by
  cases hp : s.pop16 with
  | error e => simp only [return16, State.popPc, hp, andThen_error]
  | ok r =>
    obtain ⟨v, t⟩ := r
    obtain ⟨-, -, -, -, -, rfl⟩ := State.pop16_ok_iff.mp hp
    simp only [return16, State.popPc, hp, andThen_ok]
    rfl

/-- RETI is a pop of PC, then IME set and `ime_scheduled` cleared. -/
theorem returnAndEnable_eq (s : State) :
    returnAndEnable s = andThen s.pop16 fun r => done 16 ((r.2.setPc r.1).setIme true false) := by
  simp only [returnAndEnable, State.returnFromInterrupt, State.popPc]
  cases s.pop16 <;> rfl

/-- A condition and its value, by the table of 44_control.md R300. -/
theorem State.cond_of_mem {s : State} {cc : Cond} {taken : Bool}
    (h : (cc, taken) ∈ [(Cond.nz, !s.flagZ), (.z, s.flagZ), (.nc, !s.flagC), (.c, s.flagC)]) :
    s.cond cc = taken := by
  simp only [List.mem_cons, Prod.mk.injEq, List.not_mem_nil, or_false] at h
  obtain ⟨rfl, rfl⟩ | ⟨rfl, rfl⟩ | ⟨rfl, rfl⟩ | ⟨rfl, rfl⟩ := h <;> rfl

/-! ## Stores and loads through SP -/

/-- Settles O28: the two stores of `LD [a16],SP`, each leaving what it does not reach. -/
theorem storeStackPointer : Obligations.StoreStackPointer := by
  intro a s
  have hexec : exec (.ldIndA16Sp a) s = ldAbsSp a s := rfl
  refine ⟨rfl, fun h => ?_, fun h => ?_⟩
  · obtain ⟨m₂, hw⟩ := State.memWrite16_ok h
    obtain ⟨m₁, h1, h2⟩ := State.memWrite16_ok_iff.mp hw
    have hcpu : m₂.cpu = s.cpu :=
      (State.memWrite_storeFrame h2).cpu.trans (State.memWrite_storeFrame h1).cpu
    refine ⟨m₁, m₂, m₂.setCycles 20, h1, h2, hexec.trans (ldAbsSp_next.mpr ⟨m₂, hw, rfl⟩), ?_,
      fun b hlo hhi => ?_⟩
    · rw [State.setCycles, hcpu]
    · rw [State.memRead_setCycles, State.memRead_memWrite_twice h1 h2 hlo hhi]
  · obtain ⟨e, he⟩ := State.memWrite16_refused h
    have hf : exec (.ldIndA16Sp a) s = .fault e := by rw [hexec, ldAbsSp, he, andThen_error]
    exact ⟨e, ((ldAbsSp_sound s a).fault e hf).refuses, hf⟩

/-- Settles O29, from the two stores of a push. -/
theorem pushStores : Obligations.PushStores := by
  intro p s
  refine ⟨by cases p <;> rfl, fun h => ?_, fun h => ?_⟩
  · obtain ⟨m₁, m₂, hp, hpush⟩ := State.push16_pushed h
    refine ⟨m₁, m₂, _, hp.high, hp.low,
      (exec_pushPair p s).trans (pushPair_next.mpr ⟨_, hpush, ?_⟩), rfl, hp.memory rfl⟩
    rw [State.setCycles, State.setSp, hp.cpu]
  · obtain ⟨e, he⟩ := State.push16_refused h
    exact ⟨e, (State.push16_error he).refuses, by rw [exec_pushPair, pushPair, he, andThen_error]⟩

/-- Settles O30, from the two reads of a pop. -/
theorem popLoads : Obligations.PopLoads := by
  intro p s
  refine ⟨by cases p <;> rfl, fun h => ?_, fun h => ?_⟩
  · obtain ⟨lo, hi, hlo, hhi, hpop⟩ := State.pop16_read h
    refine ⟨lo, hi, _, hlo, hhi, (exec_popPair p s).trans (popPair_next.mpr ⟨_, _, hpop, rfl⟩),
      ?_, State.setStackPair_cpu_f _ _, State.setStackPair_cpu_sp .., rfl, State.setStackPair_onlyRegs ..⟩
    show State.stackPair (State.setStackPair _ p (word16 hi lo)) p = _
    rw [State.stackPair_setStackPair, hiByte_word16, loByte_word16]
  · obtain ⟨e, he⟩ := State.pop16_refused h
    exact ⟨e, (State.pop16_error he).refuses, by rw [exec_popPair, popPair, he, andThen_error]⟩

/-- Settles O35: both forms run the same operation on the byte. -/
theorem aluMemory : Obligations.AluMemory := by
  intro op s
  have hhl : s.hl = word16 s.cpu.h s.cpu.l := rfl
  refine ⟨by cases op <;> rfl, fun h => ?_, fun h => ?_⟩
  · obtain ⟨v, hv⟩ := State.memRead_ok h
    exact ⟨v, _, hv, (exec_aluHl op s).trans (aluMem_next.mpr ⟨v, hv, rfl⟩),
      (exec_aluImm op v s).trans (aluImm_next.mpr rfl)⟩
  · obtain ⟨r, hr⟩ := State.memRead_refused h
    have hf : exec (.aluHl op) s = .fault (s.stop r) :=
      (exec_aluHl op s).trans (State.readByte_fault.mpr (.inl ⟨r, hr, rfl⟩))
    exact ⟨s.stop r, (State.memRead_error hr).2.faults.refuses, hf⟩

/-! ## Calls and returns -/

/-- Settles O46: every call taken is the push of PC, then the target. -/
theorem calls : Obligations.Calls := by
  intro a n cc taken s i target k hi lo hcc
  have hcond := State.cond_of_mem hcc
  refine ⟨rfl, by cases cc <;> rfl, by fin_cases n <;> rfl, fun ht => ?_, fun hform => ?_⟩
  · rw [exec_callCond, callIf, if_neg (by rw [hcond, ht]; exact Bool.false_ne_true)]
    rfl
  · have hexec : exec i s = callTo k target s := by
      simp only [List.mem_cons, Prod.mk.injEq, List.not_mem_nil, or_false] at hform
      obtain (⟨rfl, rfl, rfl⟩ | ⟨rfl, rfl, rfl⟩) | ⟨ht, rfl, rfl, rfl⟩ := hform
      · rfl
      · exact exec_restart n s
      · rw [exec_callCond, callIf, if_pos (hcond.trans ht)]
    refine ⟨fun h => ?_, fun h => ?_⟩
    · obtain ⟨m₁, m₂, hp, hpush⟩ := State.push16_pushed h
      refine ⟨m₁, m₂, _, hp.high, hp.low, hexec.trans (callTo_next.mpr ⟨_, hpush, ?_⟩), rfl,
        hp.memory rfl⟩
      rw [State.setCycles, State.setPc, State.setSp, hp.cpu]
    · obtain ⟨e, he⟩ := State.push16_refused h
      exact ⟨e, (State.push16_error he).refuses, by rw [hexec, callTo, he, andThen_error]⟩

/-- Settles O47: every return taken is the pop of PC; RETI then sets the two interrupt bits. -/
theorem returns : Obligations.Returns := by
  intro cc taken s i ime sched k hcc
  have hcond := State.cond_of_mem hcc
  refine ⟨rfl, rfl, by cases cc <;> rfl, fun ht => ?_, fun hform => ?_⟩
  · rw [exec_retCond, returnIf, if_neg (by rw [hcond, ht]; exact Bool.false_ne_true)]
    rfl
  · have hexec : exec i s = andThen s.pop16 fun r => done k ((r.2.setPc r.1).setIme ime sched) := by
      simp only [List.mem_cons, Prod.mk.injEq, List.not_mem_nil, or_false] at hform
      obtain (⟨rfl, rfl, rfl, rfl⟩ | ⟨rfl, rfl, rfl, rfl⟩) | ⟨ht, rfl, rfl, rfl, rfl⟩ := hform
      · exact return16_eq s 16
      · exact returnAndEnable_eq s
      · rw [exec_retCond, returnIf, if_pos (hcond.trans ht), return16_eq]
    refine ⟨fun h => ?_, fun h => ?_⟩
    · obtain ⟨lo, hi, hlo, hhi, hpop⟩ := State.pop16_read h
      exact ⟨lo, hi, hlo, hhi, by rw [hexec, hpop]; rfl⟩
    · obtain ⟨e, he⟩ := State.pop16_refused h
      exact ⟨e, (State.pop16_error he).refuses, by rw [hexec, he, andThen_error]⟩

/-! ## STOP -/

/-- Settles O49, by the mode: Nop2 is a read of the second byte, whose value is dropped. -/
theorem stopInstruction : Obligations.StopInstruction := by
  intro s
  have hexec : exec .stop s = stopOrSkip s := rfl
  refine ⟨fun hm => ?_, fun hm h => ?_, fun hm h => ?_⟩
  · rw [hexec, stopOrSkip, hm]
  · obtain ⟨v, hv⟩ := State.memRead_ok h
    exact hexec.trans (stopOrSkip_next.mpr ⟨hm, v, hv, rfl⟩)
  · obtain ⟨r, hr⟩ := State.memRead_refused h
    refine ⟨s.stop r, (State.memRead_error hr).2.faults.refuses, ?_⟩
    rw [hexec, stopOrSkip, hm]
    exact State.readByte_fault.mpr (.inl ⟨r, hr, rfl⟩)

end Sys2Proof.Machine
end

section
/-! The 8-bit and 16-bit loads: a load writes its destination and nothing else, a store is the one access
at its address, and where the access is refused the instruction faults (40_loads.md). -/

namespace Sys2Proof.Machine

/-! ## One access, allowed or refused -/

theorem State.readByte_of_memRead {s : State} {a : Word} {v : Byte} (h : s.memRead a = .ok v)
    (k : Byte → Result) : s.readByte a k = k v := by
  rw [State.readByte, State.load_ok.mpr h, andThen_ok]

theorem State.writeByte_of_memWrite {s m : State} {a : Word} {v : Byte} (h : s.memWrite a v = .ok m)
    (k : State → Result) : s.writeByte a v k = k m := by
  rw [State.writeByte, h, andThen_ok]

/-- A read that is denied faults, whatever was to follow. -/
theorem State.readByte_denied {s : State} {a : Word} (h : s.readable a = false) (k : Byte → Result) :
    ∃ e, s.Refuses e.record ∧ s.readByte a k = .fault e := by
  obtain ⟨r, hr⟩ := State.memRead_refused h
  exact ⟨s.stop r, (State.memRead_error hr).2.faults.refuses, State.readByte_fault.mpr (.inl ⟨r, hr, rfl⟩)⟩

/-- A store that is denied faults, whatever was to follow. -/
theorem State.writeByte_denied {s : State} {a : Word} {v : Byte} (h : s.storable a v = false)
    (k : State → Result) : ∃ e, s.Refuses e.record ∧ s.writeByte a v k = .fault e := by
  obtain ⟨e, he⟩ := State.memWrite_refused h
  exact ⟨e, (State.memWrite_faults he).refuses, State.writeByte_fault.mpr (.inl he)⟩

/-- After a store, in a state that differs in the CPU only and keeps the pc a refusal records, every byte
out of the store's reach reads as before it. -/
theorem State.memRead_memWrite_cpu {s m : State} {a b : Word} {v : Byte} {c : Cpu}
    (h : s.memWrite a v = .ok m) (hc : c.opPc = s.cpu.opPc) (hr : storeReach s.cart.mbc a b = false) :
    ({ m with cpu := c } : State).memRead b = s.memRead b := by
  rw [State.memRead_cpu m c b (by rw [hc, (State.memWrite_storeFrame h).cpu]),
    State.memRead_memWrite_other h hr]

/-! ## What writing a register or a pair leaves -/

/-- An instruction that ends with one register written: the register, F, the cycles and the frame. -/
theorem State.setReg_loaded (s : State) (r : Reg8) (v : Byte) (n : Nat) :
    ((s.setReg r v).setCycles n).reg r = v ∧ ((s.setReg r v).setCycles n).cpu.f = s.cpu.f
      ∧ ((s.setReg r v).setCycles n).cpu.cycles = n ∧ s.OnlyRegs ((s.setReg r v).setCycles n) [r] := by
  refine ⟨by simp, by simp, rfl, fun q hq => ?_, by cases r <;> rfl⟩
  rw [State.setCycles_reg, State.reg_setReg_other _ _ (List.mem_singleton.not.mp hq)]

/-- Writing a pair of the rr table changes the registers it is made of, or SP. -/
theorem State.setPair_onlyRegs (s : State) (p : Pair) (v : Word) (n : Nat) :
    { s with cpu := { s.cpu with sp := ((s.setPair p v).setCycles n).cpu.sp } }.OnlyRegs
      ((s.setPair p v).setCycles n) (pairRegs p) where
  others r hr := by
    rw [State.setCycles_reg, State.reg_setPair_other _ _ hr]
    exact (State.setSp_reg s _ r).symm
  rest := by cases p <;> rfl

theorem State.setPair_cpu_sp (s : State) {p : Pair} (v : Word) (hp : p ≠ .sp) :
    (s.setPair p v).cpu.sp = s.cpu.sp := by
  cases p with
  | sp => contradiction
  | bc => rfl
  | de => rfl
  | hl => rfl

/-- Writing A and HL changes the three registers they are made of. -/
theorem State.setReg_setHl_onlyRegs (s : State) (v : Byte) (w : Word) (n : Nat) :
    s.OnlyRegs (((s.setReg .a v).setPair .hl w).setCycles n) [.a, .h, .l] where
  others r hr := by
    obtain ⟨ha, hhl⟩ := not_or.mp (List.mem_cons.not.mp hr)
    rw [State.setCycles_reg, State.reg_setPair_other _ _ hhl, State.reg_setReg_other _ _ ha]
  rest := rfl

/-! ## Instructions by family -/

theorem exec_ldRegReg (dst src : Reg8) (s : State) : exec (.ldRegReg dst src) s = ldRegReg dst src s := by
  cases dst <;> cases src <;> rfl

theorem exec_ldRegImm (dst : Reg8) (n : Byte) (s : State) :
    exec (.ldRegImm n dst) s = ldRegImm dst n s := by
  cases dst <;> rfl

theorem exec_ldRegHl (dst : Reg8) (s : State) : exec (.ldRegHl dst) s = ldRegHl dst s := by
  cases dst <;> rfl

theorem exec_ldHlReg (src : Reg8) (s : State) : exec (.ldHlReg src) s = ldHlReg src s := by
  cases src <;> rfl

theorem exec_ldPairImm (p : Pair) (n : Word) (s : State) :
    exec (.ldPairImm n p) s = ldPairImm p n s := by
  cases p <;> rfl

theorem encode_ldRegReg (dst src : Reg8) :
    encode (.ldRegReg dst src) = [BitVec.ofNat 8 (0x40 + 8 * dst.code + src.code)] := by
  cases dst <;> cases src <;> rfl

/-! ## Loads of a register -/

/-- Settles O23: both forms end with one register written. -/
theorem loadRegister : Obligations.LoadRegister := by
  refine ⟨fun dst src s => ⟨encode_ldRegReg dst src, _, exec_ldRegReg dst src s, ?_⟩,
    fun dst n s => ⟨by cases dst <;> rfl, _, exec_ldRegImm dst n s, ?_⟩⟩
  · exact s.setReg_loaded dst (s.reg src) 4
  · exact s.setReg_loaded dst n 8

/-- Settles O24: each form reads the byte at its address and writes it to its register. -/
theorem loadFromMemory : Obligations.LoadFromMemory := by
  intro dst w n s i bytes a r k hform
  have ⟨hencode, hexec⟩ : encode i = bytes
      ∧ exec i s = s.readByte a fun v => done k (s.setReg r v) := by
    simp only [List.mem_cons, Prod.mk.injEq, List.not_mem_nil, or_false] at hform
    obtain ⟨rfl, rfl, rfl, rfl, rfl⟩ | ⟨rfl, rfl, rfl, rfl, rfl⟩ | ⟨rfl, rfl, rfl, rfl, rfl⟩
      | ⟨rfl, rfl, rfl, rfl, rfl⟩ | ⟨rfl, rfl, rfl, rfl, rfl⟩ | ⟨rfl, rfl, rfl, rfl, rfl⟩ := hform
    · exact ⟨by cases r <;> rfl, exec_ldRegHl r s⟩
    all_goals exact ⟨rfl, rfl⟩
  refine ⟨hencode, fun h => ?_, fun h => hexec ▸ State.readByte_denied h _⟩
  obtain ⟨v, hv⟩ := State.memRead_ok h
  exact ⟨v, _, hv, hexec.trans (State.readByte_of_memRead hv _), s.setReg_loaded r v k⟩

/-! ## Stores of a byte -/

/-- Settles O25: each form is the one store at its address. -/
theorem storeByte : Obligations.StoreByte := by
  intro src w n s i bytes a v k hform
  have ⟨hencode, hexec⟩ : encode i = bytes ∧ exec i s = s.writeByte a v (done k) := by
    simp only [List.mem_cons, Prod.mk.injEq, List.not_mem_nil, or_false] at hform
    obtain ⟨rfl, rfl, rfl, rfl, rfl⟩ | ⟨rfl, rfl, rfl, rfl, rfl⟩ | ⟨rfl, rfl, rfl, rfl, rfl⟩
      | ⟨rfl, rfl, rfl, rfl, rfl⟩ | ⟨rfl, rfl, rfl, rfl, rfl⟩ | ⟨rfl, rfl, rfl, rfl, rfl⟩
      | ⟨rfl, rfl, rfl, rfl, rfl⟩ := hform
    · exact ⟨by cases src <;> rfl, exec_ldHlReg src s⟩
    all_goals exact ⟨rfl, rfl⟩
  refine ⟨hencode, fun h => ?_, fun h => hexec ▸ State.writeByte_denied h _⟩
  obtain ⟨m, hm⟩ := State.memWrite_ok h
  refine ⟨m, { m with cpu := { s.cpu with cycles := k } }, hm, ?_, rfl,
    fun b => State.memRead_memWrite_cpu hm rfl⟩
  rw [hexec, State.writeByte_of_memWrite hm, done_eq, State.setCycles, (State.memWrite_storeFrame hm).cpu]

/-! ## Transfers through HL that step it -/

/-- Settles O26: the access at the old HL, then HL moved. -/
theorem hlStepTransfers : Obligations.HlStepTransfers := by
  refine ⟨fun s i bytes hl hform => ?_, fun s i bytes hl hform => ?_⟩
  · have ⟨hencode, hexec⟩ : encode i = bytes
        ∧ exec i s = s.readByte s.hl fun v => done 8 ((s.setReg .a v).setPair .hl hl) := by
      simp only [List.mem_cons, Prod.mk.injEq, List.not_mem_nil, or_false] at hform
      obtain ⟨rfl, rfl, rfl⟩ | ⟨rfl, rfl, rfl⟩ := hform
      · exact ⟨rfl, rfl⟩
      · exact ⟨rfl, by rw [BitVec.sub_eq_add_neg]; rfl⟩
    refine ⟨hencode, fun h => ?_, fun h => hexec ▸ State.readByte_denied h _⟩
    obtain ⟨v, hv⟩ := State.memRead_ok h
    exact ⟨v, _, hv, hexec.trans (State.readByte_of_memRead hv _), rfl,
      State.pair_setPair_same (s.setReg .a v) .hl hl, rfl, rfl, s.setReg_setHl_onlyRegs v hl 8⟩
  · have ⟨hencode, delta, hdelta, hexec⟩ : encode i = bytes ∧ ∃ delta, hl = s.hl + delta
        ∧ exec i s = ldHlStepA delta s := by
      simp only [List.mem_cons, Prod.mk.injEq, List.not_mem_nil, or_false] at hform
      obtain ⟨rfl, rfl, rfl⟩ | ⟨rfl, rfl, rfl⟩ := hform
      · exact ⟨rfl, 1, rfl, rfl⟩
      · exact ⟨rfl, -1, BitVec.sub_eq_add_neg .., rfl⟩
    refine ⟨hencode, fun h => ?_, fun h => hexec ▸ State.writeByte_denied h _⟩
    obtain ⟨m, hm⟩ := State.memWrite_ok h
    have hcpu : m.cpu = s.cpu := (State.memWrite_storeFrame hm).cpu
    have hhl : m.hl = s.hl := by rw [State.hl, State.pair, hcpu, State.hl, State.pair]
    refine ⟨m, { m with cpu := { s.cpu with h := hiByte hl, l := loByte hl, cycles := 8 } }, hm,
      hexec.trans (ldHlStepA_next.mpr ⟨m, hm, ?_⟩), rfl, fun b => State.memRead_memWrite_cpu hm rfl⟩
    rw [hdelta, ← hhl, ← hcpu]
    rfl

/-! ## Loads of a word -/

/-- Settles O27: a pair written, or SP. -/
theorem loadWord : Obligations.LoadWord := by
  refine ⟨fun p n s => ⟨by cases p <;> rfl, _, exec_ldPairImm p n s, ?_⟩, fun s => ⟨rfl, rfl⟩⟩
  exact ⟨(State.setCycles_pair ..).trans (s.pair_setPair_same p n), State.setPair_cpu_f .., rfl,
    s.setPair_cpu_sp n, s.setPair_onlyRegs p n 12⟩

end Sys2Proof.Machine
end

section
/-! 8-bit arithmetic and the instructions that read the byte at HL and write it back: what the operations
compute, in plain arithmetic on naturals, and what each family leaves (41_alu8.md,
43_rotate_shift_bit.md section 4, R284 to R287). -/

namespace Sys2Proof.Machine

/-! ## Bytes as naturals -/

theorem beq_zero_toNat (v : Byte) : (v == 0) = decide (v.toNat = 0) := by
  rw [Bool.eq_iff_iff, beq_iff_eq, decide_eq_true_eq, ← BitVec.toNat_inj]
  rfl

theorem toNat_succ8 (v : Byte) : (v + 1).toNat = (v.toNat + 1) % 256 := BitVec.toNat_add v 1

theorem toNat_pred8 (v : Byte) : (v - 1).toNat = (v.toNat + 255) % 256 := by
  rw [BitVec.toNat_sub, Nat.add_comm]
  rfl

theorem toNat_shiftLeft8 (v : Byte) (i : Nat) : (v <<< i).toNat = v.toNat * 2 ^ i % 256 := by
  rw [BitVec.toNat_shiftLeft, Nat.shiftLeft_eq]

theorem toNat_shiftRight8 (v : Byte) (i : Nat) : (v >>> i).toNat = v.toNat / 2 ^ i := by
  rw [BitVec.toNat_ushiftRight, Nat.shiftRight_eq_div_pow]

theorem getLsbD_eq_decide (v : Byte) (i : Nat) : v.getLsbD i = decide (v.toNat / 2 ^ i % 2 = 1) :=
  Nat.testBit_eq_decide_div_mod_eq

theorem bit_lt_two (b : Bool) : bit b < 2 := by
  cases b <;> decide

/-- An OR of bytes that share no bit is their sum. -/
theorem toNat_or_disjoint {x y : Byte} (h : x &&& y = 0#8) : (x ||| y).toNat = x.toNat + y.toNat := by
  rw [← BitVec.add_eq_or_of_and_eq_zero _ _ h, BitVec.toNat_add_of_and_eq_zero h]

/-- Bytes that share no bit: a multiple of `2 ^ i`, and a number below it. -/
theorem toNat_or_low {x y : Byte} {i : Nat} (hx : x.toNat % 2 ^ i = 0) (hy : y.toNat < 2 ^ i) :
    (x ||| y).toNat = x.toNat + y.toNat := by
  obtain ⟨a, ha⟩ := Nat.dvd_of_mod_eq_zero hx
  rw [BitVec.toNat_or, ha, Nat.two_pow_add_eq_or_of_lt hy]

theorem toNat_or_high {x y : Byte} {i : Nat} (hx : x.toNat < 2 ^ i) (hy : y.toNat % 2 ^ i = 0) :
    (x ||| y).toNat = x.toNat + y.toNat := by
  rw [BitVec.or_comm, toNat_or_low hy hx, Nat.add_comm]

/-- A byte is the sum of its bits outside a mask and under it. -/
theorem toNat_split_mask (v m : Byte) : (v &&& ~~~m).toNat + (v &&& m).toNat = v.toNat := by
  have hdisj : v &&& ~~~m &&& (v &&& m) = 0#8 := by
    ext i hi
    cases h : m[i] <;> simp [h]
  have hunion : v &&& ~~~m ||| v &&& m = v := by
    ext i hi
    cases h : m[i] <;> simp [h]
  rw [← toNat_or_disjoint hdisj, hunion]

/-- Setting the bits of a mask adds the mask to the bits outside it. -/
theorem toNat_or_mask (v m : Byte) : (v ||| m).toNat = (v &&& ~~~m).toNat + m.toNat := by
  have hdisj : v &&& ~~~m &&& m = 0#8 := by
    ext i hi
    cases h : m[i] <;> simp [h]
  have hunion : v &&& ~~~m ||| m = v ||| m := by
    ext i hi
    cases h : m[i] <;> simp [h]
  rw [← toNat_or_disjoint hdisj, hunion]

theorem toNat_one_shiftLeft (b : Fin 8) : (1#8 <<< b.val).toNat = 2 ^ b.val := by
  rw [← BitVec.twoPow_eq, BitVec.toNat_twoPow_of_lt b.isLt]

/-- The value of one bit of a byte. -/
theorem toNat_and_bit (v : Byte) (b : Fin 8) :
    (v &&& 1#8 <<< b.val).toNat = v.toNat / 2 ^ b.val % 2 * 2 ^ b.val := by
  rw [BitVec.toNat_and, toNat_one_shiftLeft, Nat.and_two_pow, Nat.toNat_testBit]

/-! ## RES and SET, rotates and shifts -/

/-- RES takes the value of the bit away (43_rotate_shift_bit.md R284). -/
theorem clearBit_toNat (v : Byte) (b : Fin 8) :
    (clearBit v b).toNat = v.toNat - v.toNat / 2 ^ b.val % 2 * 2 ^ b.val := by
  rw [clearBit, ← toNat_and_bit]
  exact Nat.eq_sub_of_add_eq (toNat_split_mask v _)

/-- SET adds the value of the bit where it is not there (43_rotate_shift_bit.md R286). -/
theorem putBit_toNat (v : Byte) (b : Fin 8) :
    (putBit v b).toNat = v.toNat + (1 - v.toNat / 2 ^ b.val % 2) * 2 ^ b.val := by
  have hsplit := toNat_split_mask v (1#8 <<< b.val)
  rw [toNat_and_bit] at hsplit
  rw [putBit, toNat_or_mask, toNat_one_shiftLeft]
  obtain h | h := Nat.mod_two_eq_zero_or_one (v.toNat / 2 ^ b.val) <;> rw [h] at hsplit ⊢ <;> omega

/-- The result of `rotate` is the table's (43_rotate_shift_bit.md R260). -/
theorem rotate_toNat (op : RotOp) (v : Byte) (cin : Bool) :
    (rotate op v cin).1.toNat = op.result v.toNat (bit cin) := by
  have hv := v.isLt
  have hc := bit_lt_two cin
  cases op with
  | rlc =>
    show (v <<< 1 ||| v >>> 7).toNat = v.toNat * 2 % 256 + v.toNat / 128
    rw [toNat_or_low (i := 1)] <;> simp only [toNat_shiftLeft8, toNat_shiftRight8] <;> omega
  | rrc =>
    show (v >>> 1 ||| v <<< 7).toNat = v.toNat / 2 + v.toNat % 2 * 128
    rw [toNat_or_high (i := 7)] <;> simp only [toNat_shiftLeft8, toNat_shiftRight8] <;> omega
  | rl =>
    show (v <<< 1 ||| BitVec.ofNat 8 (bit cin)).toNat = v.toNat * 2 % 256 + bit cin
    rw [toNat_or_low (i := 1)] <;> simp only [toNat_shiftLeft8, BitVec.toNat_ofNat] <;> omega
  | rr =>
    show (v >>> 1 ||| BitVec.ofNat 8 (bit cin * 128)).toNat = v.toNat / 2 + bit cin * 128
    rw [toNat_or_high (i := 7)] <;> simp only [toNat_shiftRight8, BitVec.toNat_ofNat] <;> omega
  | sla => exact toNat_shiftLeft8 v 1
  | sra =>
    have hsign : (v &&& 0x80).toNat = v.toNat / 2 ^ 7 % 2 * 2 ^ 7 := toNat_and_bit v 7
    show (v >>> 1 ||| v &&& 0x80).toNat = v.toNat / 2 + v.toNat / 128 * 128
    rw [toNat_or_high (i := 7)] <;> simp only [toNat_shiftRight8, hsign] <;> omega
  | swap =>
    show (v <<< 4 ||| v >>> 4).toNat = v.toNat % 16 * 16 + v.toNat / 16
    rw [toNat_or_low (i := 4)] <;> simp only [toNat_shiftLeft8, toNat_shiftRight8] <;> omega
  | srl => exact toNat_shiftRight8 v 1

/-- The bit `rotate` shifts out is the table's (43_rotate_shift_bit.md R260). -/
theorem rotate_out (op : RotOp) (v : Byte) (cin : Bool) : (rotate op v cin).2 = op.out v.toNat := by
  have high : v.getLsbD 7 = decide (128 ≤ v.toNat) := by
    have hv := v.isLt
    rw [getLsbD_eq_decide, decide_eq_decide]
    omega
  have low : v.getLsbD 0 = decide (v.toNat % 2 = 1) := by
    rw [getLsbD_eq_decide, Nat.pow_zero, Nat.div_one]
  cases op with
  | rlc => exact high
  | rrc => exact low
  | rl => exact high
  | rr => exact low
  | sla => exact high
  | sra => exact low
  | swap => rfl
  | srl => exact low

/-! ## Sums, differences and DAA -/

theorem add8_toNat (a b : Byte) (cin : Bool) :
    (add8 a b cin).value.toNat = (a.toNat + b.toNat + bit cin) % 256 := BitVec.toNat_ofNat ..

theorem sub8_toNat (a b : Byte) (cin : Bool) :
    ((sub8 a b cin).value.toNat : Int) = ((a.toNat : Int) - b.toNat - bit cin) % 256 := by
  have hb := b.isLt
  have hc := bit_lt_two cin
  rw [sub8, BitVec.toNat_ofNat]
  omega

/-- CP compares: the difference is zero where the operands are equal (41_alu8.md R227). -/
theorem sub8_beq_zero (a b : Byte) : ((sub8 a b false).value == 0) = decide (a = b) := by
  have ha := a.isLt
  have hb := b.isLt
  rw [beq_zero_toNat, decide_eq_decide, ← BitVec.toNat_inj, sub8, BitVec.toNat_ofNat]
  show (a.toNat + 512 - (b.toNat + 0)) % 256 = 0 ↔ a.toNat = b.toNat
  omega

/-- DAA after an addition (41_alu8.md R230, N = 0). -/
theorem daa_add (a : Byte) (h c : Bool) :
    (daa a false h c).1.toNat = (a.toNat + (if c = true ∨ a.toNat > 0x99 then 0x60 else 0)
        + (if h = true ∨ a.toNat % 16 > 9 then 0x06 else 0)) % 256
      ∧ (daa a false h c).2 = decide (c = true ∨ a.toNat > 0x99) := by
  simp only [daa, Bool.false_eq_true, if_false, Bool.or_eq_true, decide_eq_true_eq, BitVec.toNat_add,
    apply_ite BitVec.toNat]
  exact ⟨Nat.mod_add_mod .., by rw [Bool.decide_or, Bool.decide_eq_true]⟩

/-- DAA after a subtraction (41_alu8.md R230, N = 1). -/
theorem daa_sub (a : Byte) (h c : Bool) :
    ((daa a true h c).1.toNat : Int)
      = ((a.toNat : Int) - (if c then 0x60 else 0) - (if h then 0x06 else 0)) % 256 := by
  have ha := a.isLt
  simp only [daa, if_true, BitVec.toNat_sub, apply_ite BitVec.toNat]
  split <;> split <;> simp <;> omega

/-! ## Instructions that end with the flags written -/

theorem State.setFlags_setCycles (s : State) (z n h c : Bool) (k : Nat) :
    (s.setFlags z n h c).setCycles k
      = { s with cpu := { s.cpu with f := flagByte z n h c, cycles := k } } := by
  rw [State.setFlags, State.setF, flagByte_masked]
  rfl

/-- Writing one register and the flags changes that register. -/
theorem State.setReg_setFlags_onlyRegs (s : State) (r : Reg8) (v : Byte) (z n h c : Bool) (k : Nat) :
    s.OnlyRegs (((s.setReg r v).setFlags z n h c).setCycles k) [r] where
  others q hq := by
    rw [State.setCycles_reg, State.setFlags_reg, State.reg_setReg_other _ _ (List.mem_singleton.not.mp hq)]
  rest := by cases r <;> rfl

theorem State.incFlags_eq (s : State) (v : Byte) :
    s.incFlags v = s.setFlags (decide (v.toNat = 255)) false (decide (v.toNat % 16 = 15)) s.flagC := by
  have hz : (v + 1 == 0) = decide (v.toNat = 255) := by
    have hv := v.isLt
    rw [beq_zero_toNat, toNat_succ8, decide_eq_decide]
    omega
  rw [State.incFlags, hz]
  rfl

theorem State.decFlags_eq (s : State) (v : Byte) :
    s.decFlags v = s.setFlags (decide (v.toNat = 1)) true (decide (v.toNat % 16 = 0)) s.flagC := by
  have hz : (v - 1 == 0) = decide (v.toNat = 1) := by
    have hv := v.isLt
    rw [beq_zero_toNat, toNat_pred8, decide_eq_decide]
    omega
  rw [State.decFlags, hz]
  rfl

theorem State.rotFlags_rotate (s : State) (op : RotOp) (v : Byte) (cin : Bool) :
    s.rotFlags (rotate op v cin) = s.setFlags (decide (op.result v.toNat (bit cin) = 0)) false false
      (op.out v.toNat) := by
  rw [State.rotFlags, beq_zero_toNat, rotate_toNat, rotate_out]

theorem State.setArith_cpu_a (s : State) (n : Bool) (r : Arith 8) : (s.setArith n r).cpu.a = r.value := rfl

theorem State.setArith_cpu_f (s : State) (n : Bool) (r : Arith 8) :
    (s.setArith n r).cpu.f = flagByte (decide (r.value.toNat = 0)) n r.half r.carry := by
  rw [State.setArith, State.setFlags_cpu_f_new, beq_zero_toNat]

theorem State.setLogic_cpu_f (s : State) (h : Bool) (r : Byte) :
    (s.setLogic h r).cpu.f = flagByte (decide (r = 0)) false h false :=
  State.setFlags_cpu_f_new ..

theorem State.alu_onlyRegs (s : State) (op : AluOp) (v : Byte) (k : Nat) :
    s.OnlyRegs ((s.alu op v).setCycles k) [.a] := by
  cases op with
  | cp =>
    exact ⟨fun q _ => by rw [State.setCycles_reg]; exact State.setFlags_reg .., rfl⟩
  | _ => exact s.setReg_setFlags_onlyRegs .a ..

/-! ## Instructions by family -/

theorem exec_incReg (dst : Reg8) (s : State) : exec (.incReg dst) s = incReg dst s := by
  cases dst <;> rfl

theorem exec_decReg (dst : Reg8) (s : State) : exec (.decReg dst) s = decReg dst s := by
  cases dst <;> rfl

theorem exec_aluReg (op : AluOp) (r : Reg8) (s : State) : exec (.aluReg op r) s = aluReg op r s := by
  cases op <;> cases r <;> rfl

theorem encode_aluReg (op : AluOp) (r : Reg8) :
    encode (.aluReg op r) = [BitVec.ofNat 8 (0x80 + 8 * op.code + r.code)] := by
  cases op <;> cases r <;> rfl

theorem exec_rotHl (op : RotOp) (s : State) : exec (.rotHl op) s = rotMem op s := by
  cases op <;> rfl

theorem exec_resHl (b : Fin 8) (s : State) : exec (.resHl b) s = resetBitMem b s := by
  fin_cases b <;> rfl

theorem exec_setHl (b : Fin 8) (s : State) : exec (.setHl b) s = setBitMem b s := by
  fin_cases b <;> rfl

/-- The register and the immediate form of an ALU operation differ in where the operand is and in the
cycles (41_alu8.md R200). -/
theorem exec_aluForm {op : AluOp} {r : Reg8} {n : Byte} {s : State} {i : Instr} {bytes : List Byte}
    {v : Byte} {k : Nat}
    (h : (i, bytes, v, k) ∈ ([
      (.aluReg op r, [BitVec.ofNat 8 (0x80 + 8 * op.code + r.code)], s.reg r, 4),
      (.aluImm n op, [BitVec.ofNat 8 (0xC6 + 8 * op.code), n], n, 8)] :
        List (Instr × List Byte × Byte × Nat))) :
    encode i = bytes ∧ exec i s = .next ((s.alu op v).setCycles k) := by
  simp only [List.mem_cons, Prod.mk.injEq, List.not_mem_nil, or_false] at h
  obtain ⟨rfl, rfl, rfl, rfl⟩ | ⟨rfl, rfl, rfl, rfl⟩ := h
  · exact ⟨encode_aluReg op r, exec_aluReg op r s⟩
  · exact ⟨by cases op <;> rfl, exec_aluImm op v s⟩

/-! ## Reading the byte at HL and writing it back -/

/-- `i` in `s` reads the byte at HL and writes it back: the byte becomes `new` of what it was, F is `flags`
of what it was, and no other access stands between (20_memory.md R73). -/
structure State.Modifies (s : State) (i : Instr) (new : Nat → Nat) (flags : Nat → Byte) (k : Nat) :
    Prop where
  byte : ∀ v : Byte, new v.toNat < 256
  meaning : exec i s = s.readByte s.hl fun v => s.writeByte s.hl (BitVec.ofNat 8 (new v.toNat)) fun m =>
    .next { m with cpu := { s.cpu with f := flags v.toNat, cycles := k } }

/-- What follows a store sees the CPU as it was before. -/
theorem State.writeByte_congr {s : State} {a : Word} {v : Byte} {j k : State → Result}
    (h : ∀ m, m.cpu = s.cpu → j m = k m) : s.writeByte a v j = s.writeByte a v k := by
  cases hw : s.memWrite a v with
  | error e => simp only [State.writeByte, hw, andThen_error]
  | ok m =>
    rw [State.writeByte_of_memWrite hw, State.writeByte_of_memWrite hw, h m (State.memWrite_storeFrame hw).cpu]

/-- A meaning that writes back `g` of the byte and ends in `f` of the state stored in. -/
theorem State.Modifies.of_exec {s : State} {i : Instr} {new : Nat → Nat} {flags : Nat → Byte} {k : Nat}
    {g : Byte → Byte} {f : State → Byte → State}
    (meaning : exec i s = s.readByte s.hl fun v => s.writeByte s.hl (g v) fun m => done k (f m v))
    (byte : ∀ v, (g v).toNat = new v.toNat)
    (leaves : ∀ m v, m.cpu = s.cpu →
      (f m v).setCycles k = { m with cpu := { s.cpu with f := flags v.toNat, cycles := k } }) :
    s.Modifies i new flags k where
  byte v := byte v ▸ (g v).isLt
  meaning := by
    rw [meaning]
    congr 1
    funext v
    rw [← byte v, BitVec.ofNat_toNat, BitVec.setWidth_eq]
    exact State.writeByte_congr fun m hm => congrArg _ (leaves m v hm)

theorem State.flagC_congr {s m : State} (hm : m.cpu = s.cpu) : m.flagC = s.flagC := by
  rw [State.flagC, hm, State.flagC]

theorem incIndHl_modifies (s : State) : s.Modifies .incIndHl (fun v => (v + 1) % 256)
    (fun v => flagByte (decide (v = 255)) false (decide (v % 16 = 15)) s.flagC) 12 := by
  refine .of_exec (f := State.incFlags) rfl toNat_succ8 fun m v hm => ?_
  rw [State.incFlags_eq, State.setFlags_setCycles, State.flagC_congr hm, hm]

theorem decIndHl_modifies (s : State) : s.Modifies .decIndHl (fun v => (v + 255) % 256)
    (fun v => flagByte (decide (v = 1)) true (decide (v % 16 = 0)) s.flagC) 12 := by
  refine .of_exec (f := State.decFlags) rfl toNat_pred8 fun m v hm => ?_
  rw [State.decFlags_eq, State.setFlags_setCycles, State.flagC_congr hm, hm]

theorem rotHl_modifies (op : RotOp) (s : State) :
    s.Modifies (.rotHl op) (fun v => op.result v (bit s.flagC))
      (fun v => flagByte (decide (op.result v (bit s.flagC) = 0)) false false (op.out v)) 16 := by
  refine .of_exec (f := fun m v => m.rotFlags (rotate op v s.flagC)) (exec_rotHl op s)
    (fun v => rotate_toNat op v s.flagC) fun m v hm => ?_
  rw [State.rotFlags_rotate, State.setFlags_setCycles, hm]

theorem resHl_modifies (b : Fin 8) (s : State) :
    s.Modifies (.resHl b) (fun v => v - v / 2 ^ b.val % 2 * 2 ^ b.val) (fun _ => s.cpu.f) 16 :=
  .of_exec (f := fun m _ => m) (exec_resHl b s) (fun v => clearBit_toNat v b) fun m _ hm => by
    rw [State.setCycles, hm]

theorem setHl_modifies (b : Fin 8) (s : State) :
    s.Modifies (.setHl b) (fun v => v + (1 - v / 2 ^ b.val % 2) * 2 ^ b.val) (fun _ => s.cpu.f) 16 :=
  .of_exec (f := fun m _ => m) (exec_setHl b s) (fun v => putBit_toNat v b) fun m _ hm => by
    rw [State.setCycles, hm]

/-- Settles O42: each form is a read at HL and the store of the new byte there. -/
theorem readModifyWrite : Obligations.ReadModifyWrite := by
  intro op n s i bytes new flags k hl c hform
  have ⟨hencode, hbyte, hexec⟩ : encode i = bytes ∧ s.Modifies i new flags k := by
    simp only [List.mem_cons, Prod.mk.injEq, List.not_mem_nil, or_false] at hform
    obtain ⟨rfl, rfl, rfl, rfl, rfl⟩ | ⟨rfl, rfl, rfl, rfl, rfl⟩ | ⟨rfl, rfl, rfl, rfl, rfl⟩
      | ⟨rfl, rfl, rfl, rfl, rfl⟩ | ⟨rfl, rfl, rfl, rfl, rfl⟩ := hform
    · exact ⟨rfl, incIndHl_modifies s⟩
    · exact ⟨rfl, decIndHl_modifies s⟩
    · exact ⟨by cases op <;> rfl, rotHl_modifies op s⟩
    · exact ⟨by fin_cases n <;> rfl, resHl_modifies n s⟩
    · exact ⟨by fin_cases n <;> rfl, setHl_modifies n s⟩
  refine ⟨hencode, fun h => ?_, fun h => hexec ▸ State.readByte_denied h _⟩
  obtain ⟨v, hv⟩ := State.memRead_ok h
  have hwrite := hexec.trans (State.readByte_of_memRead hv _)
  refine ⟨v, hv, fun h => ?_, fun h => hwrite ▸ State.writeByte_denied h _⟩
  obtain ⟨m, hm⟩ := State.memWrite_ok h
  exact ⟨m, _, hm, hbyte v, hwrite.trans (State.writeByte_of_memWrite hm _), rfl,
    fun b => State.memRead_memWrite_cpu hm rfl⟩

/-! ## Registers -/

/-- Settles O32: the register written, then the flags from its old value. -/
theorem incDecRegister : Obligations.IncDecRegister := by
  intro dst s old
  refine ⟨by cases dst <;> rfl, by cases dst <;> rfl, ⟨_, exec_incReg dst s, ?_⟩, _, exec_decReg dst s, ?_⟩
  · rw [State.incFlags_eq, State.setReg_flagC]
    exact ⟨by rw [State.setCycles_reg, State.setFlags_reg, State.reg_setReg_same, toNat_succ8],
      State.setFlags_cpu_f_new (s.setReg dst (s.reg dst + 1)) .., rfl, s.setReg_setFlags_onlyRegs dst ..⟩
  · rw [State.decFlags_eq, State.setReg_flagC]
    exact ⟨by rw [State.setCycles_reg, State.setFlags_reg, State.reg_setReg_same, toNat_pred8],
      State.setFlags_cpu_f_new (s.setReg dst (s.reg dst - 1)) .., rfl, s.setReg_setFlags_onlyRegs dst ..⟩

/-- Settles O33, from the sum and the difference with the carry in. -/
theorem aluArithmetic : Obligations.AluArithmetic := by
  intro op r n s i bytes v k hform _ A V C
  obtain ⟨hencode, hexec⟩ := exec_aluForm hform
  refine ⟨hencode, _, hexec, rfl, s.alu_onlyRegs op v k, fun hop => ?_, fun hop => ?_⟩
  · have ⟨cin, hcin, halu⟩ : ∃ cin, C = bit cin ∧ s.alu op v = s.setArith false (add8 s.cpu.a v cin) := by
      obtain rfl | rfl := hop
      · exact ⟨false, by simp [C, bit], rfl⟩
      · exact ⟨s.flagC, by simp [C, bit], rfl⟩
    rw [State.setCycles_cpu_a, State.setCycles_cpu_f, halu, State.setArith_cpu_f, State.setArith_cpu_a,
      add8_toNat, hcin]
    exact ⟨rfl, rfl⟩
  · have ⟨cin, hcin, halu⟩ : ∃ cin, C = bit cin ∧ s.alu op v = s.setArith true (sub8 s.cpu.a v cin) := by
      obtain rfl | rfl := hop
      · exact ⟨false, by simp [C, bit], rfl⟩
      · exact ⟨s.flagC, by simp [C, bit], rfl⟩
    rw [State.setCycles_cpu_a, State.setCycles_cpu_f, halu, State.setArith_cpu_f, State.setArith_cpu_a,
      hcin, ← sub8_toNat]
    exact ⟨rfl, by simp only [Int.natCast_eq_zero]; rfl⟩

/-- Settles O34: three operations bit by bit, and CP, a difference that is not kept. -/
theorem aluLogicAndCompare : Obligations.AluLogicAndCompare := by
  intro op r n s i bytes v k hform _
  obtain ⟨hencode, hexec⟩ := exec_aluForm hform
  refine ⟨hencode, _, hexec, rfl, s.alu_onlyRegs op v k, ?_, ?_, ?_, ?_⟩
  · rintro rfl
    exact ⟨rfl, s.setLogic_cpu_f ..⟩
  · rintro rfl
    exact ⟨rfl, s.setLogic_cpu_f ..⟩
  · rintro rfl
    exact ⟨rfl, s.setLogic_cpu_f ..⟩
  · rintro rfl
    refine ⟨rfl, (s.setFlags_cpu_f_new ..).trans ?_⟩
    rw [sub8_beq_zero]
    rfl

/-- Settles O36, by the value of N. -/
theorem decimalAdjust : Obligations.DecimalAdjust := by
  intro s A high low
  refine ⟨rfl, _, rfl, rfl, s.setReg_setFlags_onlyRegs .a .., fun hn => ?_, fun hn => ?_, ?_⟩
  · rw [State.setCycles_flagC, State.setFlags_flagC, hn]
    exact daa_add ..
  · rw [State.setCycles_flagC, State.setFlags_flagC, hn]
    exact ⟨daa_sub .., rfl⟩
  · rw [State.setCycles_flagC, State.setFlags_flagC, State.setCycles_cpu_f, State.setFlags_cpu_f_new]
    rfl

/-- Settles O38. -/
theorem complementAndCarry : Obligations.ComplementAndCarry := by
  intro s
  refine ⟨rfl, rfl, rfl, ?_, ?_, ?_⟩
  · exact congrArg _ (State.setFlags_setCycles ..)
  · exact congrArg _ (State.setFlags_setCycles ..)
  · exact congrArg _ (State.setFlags_setCycles ..)

end Sys2Proof.Machine
end

section
/-! 16-bit arithmetic: the three operations on register pairs and the two sums of SP and a signed byte
(42_alu16.md). -/

namespace Sys2Proof.Machine

/-! ## Sums of words -/

/-- The sum of `ADD HL,rr` (42_alu16.md R243). -/
theorem add16_toNat (a b : Word) : (add16 a b).value.toNat = (a.toNat + b.toNat) % 65536 :=
  BitVec.toNat_add a b

/-- The sum of SP and a signed byte (42_alu16.md R240). -/
theorem spPlusE8_toNat (sp : Word) (e : Byte) :
    ((spPlusE8 sp e).value.toNat : Int) = ((sp.toNat : Int) + e.toInt) % 65536 := by
  have hext : ((sext16 e).toNat : Int) = e.toInt % 65536 := by
    rw [sext16, BitVec.signExtend, BitVec.toNat_ofInt]
    omega
  rw [spPlusE8, BitVec.toNat_add]
  omega

/-! ## What writing a pair leaves -/

/-- An instruction that ends with one pair written: the pair, F, the cycles, SP and the frame. -/
theorem State.setPair_loaded (s : State) (p : Pair) (v : Word) (n : Nat) :
    ((s.setPair p v).setCycles n).pair p = v ∧ ((s.setPair p v).setCycles n).cpu.f = s.cpu.f
      ∧ ((s.setPair p v).setCycles n).cpu.cycles = n
      ∧ (p ≠ .sp → ((s.setPair p v).setCycles n).cpu.sp = s.cpu.sp)
      ∧ { s with cpu := { s.cpu with sp := ((s.setPair p v).setCycles n).cpu.sp } }.OnlyRegs
        ((s.setPair p v).setCycles n) (pairRegs p) :=
  ⟨by simp, by simp, rfl, s.setPair_cpu_sp v, s.setPair_onlyRegs p v n⟩

/-- An instruction that ends with HL and the flags written: HL, F, the cycles and the frame. -/
theorem State.setHl_setFlags_loaded (s : State) (v : Word) (z n h c : Bool) (k : Nat) :
    (((s.setPair .hl v).setFlags z n h c).setCycles k).pair .hl = v
      ∧ (((s.setPair .hl v).setFlags z n h c).setCycles k).cpu.f = flagByte z n h c
      ∧ (((s.setPair .hl v).setFlags z n h c).setCycles k).cpu.cycles = k
      ∧ s.OnlyRegs (((s.setPair .hl v).setFlags z n h c).setCycles k) [.h, .l] := by
  refine ⟨by simp, by simp, rfl, fun r hr => ?_, rfl⟩
  rw [State.setCycles_reg, State.setFlags_reg, State.reg_setPair_other s (p := .hl) v hr]

/-! ## Instructions by family -/

theorem exec_incPair (p : Pair) (s : State) : exec (.incPair p) s = stepPair p 1 s := by
  cases p <;> rfl

theorem exec_decPair (p : Pair) (s : State) : exec (.decPair p) s = stepPair p (-1) s := by
  cases p <;> rfl

theorem exec_addHlPair (p : Pair) (s : State) : exec (.addHlPair p) s = addHl p s := by
  cases p <;> rfl

/-- Settles O39: INC and DEC end with the pair written, ADD with HL and then the flags. -/
theorem pairArithmetic : Obligations.PairArithmetic := by
  intro p s hl v
  refine ⟨by cases p <;> rfl, by cases p <;> rfl, by cases p <;> rfl,
    ⟨_, exec_incPair p s, ?_⟩, ⟨_, exec_decPair p s, ?_⟩, _, exec_addHlPair p s, ?_⟩
  · obtain ⟨hpair, hframe⟩ := s.setPair_loaded p (s.pair p + 1) 8
    exact ⟨by rw [hpair, toNat_succ], hframe⟩
  · obtain ⟨hpair, hframe⟩ := s.setPair_loaded p (s.pair p + -1) 8
    exact ⟨by rw [hpair, ← BitVec.sub_eq_add_neg, toNat_pred], hframe⟩
  · obtain ⟨hpair, hframe⟩ := s.setHl_setFlags_loaded (add16 s.hl (s.pair p)).value s.flagZ false
      (add16 s.hl (s.pair p)).half (add16 s.hl (s.pair p)).carry 8
    exact ⟨(congrArg BitVec.toNat hpair).trans (add16_toNat ..), hframe⟩

/-- Settles O40: both write the one sum and its flags, to SP or to HL. -/
theorem stackPointerOffset : Obligations.StackPointerOffset := by
  intro e s sp f
  refine ⟨rfl, rfl, (spPlusE8 s.cpu.sp e).value, spPlusE8_toNat s.cpu.sp e, ?_, ?_⟩
  · exact congrArg _ (State.setFlags_setCycles ..)
  · exact congrArg _ (State.setFlags_setCycles ..)

end Sys2Proof.Machine
end

section
/-! Rotates and shifts of registers, bit tests, and the writes of one bit (43_rotate_shift_bit.md). -/

namespace Sys2Proof.Machine

/-! ## One bit of a byte -/

/-- RES in the bits: the one is 0, the others are as they were (43_rotate_shift_bit.md R284). -/
theorem getLsbD_clearBit (v : Byte) (b : Fin 8) {j : Nat} (hj : j < 8) :
    (clearBit v b).getLsbD j = (decide (j ≠ b.val) && v.getLsbD j) := by
  rw [clearBit, ← BitVec.twoPow_eq, BitVec.getLsbD_and, BitVec.getLsbD_not, BitVec.getLsbD_twoPow,
    Bool.and_comm]
  simp only [hj, b.isLt, decide_true, Bool.true_and, ne_eq, decide_not, eq_comm]

/-- SET in the bits: the one is 1, the others are as they were (43_rotate_shift_bit.md R286). -/
theorem getLsbD_putBit (v : Byte) (b : Fin 8) (j : Nat) :
    (putBit v b).getLsbD j = (decide (j = b.val) || v.getLsbD j) := by
  rw [putBit, ← BitVec.twoPow_eq, BitVec.getLsbD_or, BitVec.getLsbD_twoPow, Bool.or_comm]
  simp only [b.isLt, decide_true, Bool.true_and, eq_comm]

/-! ## What writing the flags leaves -/

/-- An instruction that ends with one register and the flags written: the register, F, the cycles and the
frame. -/
theorem State.setReg_setFlags_loaded (s : State) (r : Reg8) (v : Byte) (z n h c : Bool) (k : Nat) :
    (((s.setReg r v).setFlags z n h c).setCycles k).reg r = v
      ∧ (((s.setReg r v).setFlags z n h c).setCycles k).cpu.f = flagByte z n h c
      ∧ (((s.setReg r v).setFlags z n h c).setCycles k).cpu.cycles = k
      ∧ s.OnlyRegs (((s.setReg r v).setFlags z n h c).setCycles k) [r] :=
  ⟨by simp, by simp, rfl, s.setReg_setFlags_onlyRegs r v z n h c k⟩

/-- An instruction that ends with the flags of BIT: Z in arithmetic (43_rotate_shift_bit.md R282). -/
theorem State.bitFlags_setCycles (s : State) (v : Byte) (b : Fin 8) (k : Nat) :
    (s.bitFlags v b).setCycles k = { s with cpu := { s.cpu with
      f := flagByte (decide (v.toNat / 2 ^ b.val % 2 = 0)) false true s.flagC, cycles := k } } := by
  rw [State.bitFlags, getLsbD_eq_decide, ← decide_not, decide_eq_decide.mpr Nat.mod_two_ne_one,
    State.setFlags_setCycles]

/-! ## Instructions by family -/

theorem exec_rotReg (op : RotOp) (r : Reg8) (s : State) : exec (.rotReg op r) s = rotReg op r s := by
  cases op <;> cases r <;> rfl

theorem encode_rotReg (op : RotOp) (r : Reg8) :
    encode (.rotReg op r) = [0xCB, BitVec.ofNat 8 (8 * op.code + r.code)] := by
  cases op <;> cases r <;> rfl

theorem exec_bitReg (b : Fin 8) (r : Reg8) (s : State) : exec (.bitReg b r) s = testBitReg b r s := by
  fin_cases b <;> cases r <;> rfl

theorem encode_bitReg (b : Fin 8) (r : Reg8) :
    encode (.bitReg b r) = [0xCB, BitVec.ofNat 8 (0x40 + 8 * b.val + r.code)] := by
  fin_cases b <;> cases r <;> rfl

theorem exec_bitHl (b : Fin 8) (s : State) : exec (.bitHl b) s = testBitMem b s := by
  fin_cases b <;> rfl

theorem encode_bitHl (b : Fin 8) : encode (.bitHl b) = [0xCB, BitVec.ofNat 8 (0x46 + 8 * b.val)] := by
  fin_cases b <;> rfl

theorem exec_resReg (b : Fin 8) (r : Reg8) (s : State) : exec (.resReg b r) s = resetBitReg b r s := by
  fin_cases b <;> cases r <;> rfl

theorem encode_resReg (b : Fin 8) (r : Reg8) :
    encode (.resReg b r) = [0xCB, BitVec.ofNat 8 (0x80 + 8 * b.val + r.code)] := by
  fin_cases b <;> cases r <;> rfl

theorem exec_setReg (b : Fin 8) (r : Reg8) (s : State) : exec (.setReg b r) s = setBitReg b r s := by
  fin_cases b <;> cases r <;> rfl

theorem encode_setReg (b : Fin 8) (r : Reg8) :
    encode (.setReg b r) = [0xCB, BitVec.ofNat 8 (0xC0 + 8 * b.val + r.code)] := by
  fin_cases b <;> cases r <;> rfl

/-! ## Rotates and shifts -/

/-- Settles O41: both forms write what `rotate` gives, and `rotate` is the table. -/
theorem rotateRegister : Obligations.RotateRegister := by
  refine ⟨fun s i bytes op hform => ?_, fun op r s => ?_⟩
  · have ⟨hencode, hexec⟩ : encode i = bytes ∧ exec i s = rotA op s := by
      simp only [List.mem_cons, Prod.mk.injEq, List.not_mem_nil, or_false] at hform
      obtain ⟨rfl, rfl, rfl⟩ | ⟨rfl, rfl, rfl⟩ | ⟨rfl, rfl, rfl⟩ | ⟨rfl, rfl, rfl⟩ := hform
      all_goals exact ⟨rfl, rfl⟩
    obtain ⟨ha, hf, hframe⟩ := s.setReg_setFlags_loaded .a (rotate op s.cpu.a s.flagC).1 false false false
      (rotate op s.cpu.a s.flagC).2 4
    exact ⟨hencode, _, hexec, (congrArg BitVec.toNat ha).trans (rotate_toNat ..),
      hf.trans (by rw [rotate_out]), hframe⟩
  · intro v
    refine ⟨encode_rotReg op r, _, exec_rotReg op r s, ?_⟩
    rw [State.rotFlags_rotate]
    obtain ⟨hr, hf⟩ := s.setReg_setFlags_loaded r (rotate op (s.reg r) s.flagC).1
      (decide (op.result v (bit s.flagC) = 0)) false false (op.out v) 8
    exact ⟨(congrArg BitVec.toNat hr).trans (rotate_toNat ..), hf⟩

/-! ## Bits -/

/-- Settles O43: both forms write the flags of one byte, a register's or the one read at HL. -/
theorem bitTests : Obligations.BitTests := by
  intro n r s hl
  refine ⟨encode_bitReg n r, encode_bitHl n, ?_, fun h => ?_,
    fun h => exec_bitHl n s ▸ State.readByte_denied h _⟩
  · exact (exec_bitReg n r s).trans (congrArg _ (s.bitFlags_setCycles (s.reg r) n 8))
  · obtain ⟨v, hv⟩ := State.memRead_ok h
    have hexec : exec (.bitHl n) s = done 12 (s.bitFlags v n) :=
      (exec_bitHl n s).trans (State.readByte_of_memRead hv _)
    exact ⟨v, hv, hexec.trans (congrArg _ (s.bitFlags_setCycles v n 12))⟩

/-- Settles O44: both forms end with one register written, and the byte differs in one bit. -/
theorem bitWrites : Obligations.BitWrites := by
  intro n r s
  refine ⟨encode_resReg n r, encode_setReg n r, ⟨_, exec_resReg n r s, ?_⟩, _, exec_setReg n r s, ?_⟩
  · obtain ⟨hr, hframe⟩ := s.setReg_loaded r (clearBit (s.reg r) n) 8
    exact ⟨fun j hj => by rw [hr, getLsbD_clearBit _ _ hj], hframe⟩
  · obtain ⟨hr, hframe⟩ := s.setReg_loaded r (putBit (s.reg r) n) 8
    exact ⟨fun j _ => by rw [hr, getLsbD_putBit], hframe⟩

end Sys2Proof.Machine
end

section
/-! Jumps: PC and the cycle count are all they write (44_control.md). -/

namespace Sys2Proof.Machine

/-! ## The target and the state after a jump -/

/-- The target of a relative jump (44_control.md R304). -/
theorem State.relative_toNat (s : State) (e : Byte) :
    ((s.relative e).toNat : Int) = ((s.cpu.pc.toNat : Int) + e.toInt) % 65536 :=
  spPlusE8_toNat s.cpu.pc e

/-- A conditional jump ends with PC and the cycle count written, or with the cycle count alone. -/
theorem State.setPc_setCycles_ite (s : State) (taken : Bool) (a : Word) (m n : Nat) :
    (if taken then (s.setPc a).setCycles m else s.setCycles n) = { s with cpu := { s.cpu with
      pc := if taken then a else s.cpu.pc, cycles := if taken then m else n } } := by
  cases taken <;> rfl

/-! ## Instructions by family -/

theorem exec_jpCond (cc : Cond) (a : Word) (s : State) : exec (.jpCond a cc) s = jumpIf cc a s := by
  cases cc <;> rfl

theorem encode_jpCond (cc : Cond) (a : Word) :
    encode (.jpCond a cc) = [BitVec.ofNat 8 (0xC2 + 8 * cc.code), loByte a, hiByte a] := by
  cases cc <;> rfl

theorem exec_jrCond (cc : Cond) (e : Byte) (s : State) :
    exec (.jrCond e cc) s = jumpRelativeIf cc e s := by
  cases cc <;> rfl

theorem encode_jrCond (cc : Cond) (e : Byte) :
    encode (.jrCond e cc) = [BitVec.ofNat 8 (0x20 + 8 * cc.code), e] := by
  cases cc <;> rfl

/-! ## Jumps -/

/-- Settles O45: the unconditional forms write PC and the cycle count, the conditional ones by `cond`. -/
theorem jumps : Obligations.Jumps := by
  intro a e cc taken s hcc
  obtain rfl := State.cond_of_mem hcc
  refine ⟨s.relative e, s.relative_toNat e, rfl, rfl, rfl, encode_jpCond cc a, encode_jrCond cc e,
    rfl, rfl, rfl, ?_, ?_⟩
  · exact (exec_jpCond cc a s).trans (jumpIf_next.mpr (s.setPc_setCycles_ite ..).symm)
  · exact (exec_jrCond cc e s).trans (jumpRelativeIf_next.mpr (s.setPc_setCycles_ite ..).symm)

end Sys2Proof.Machine
end

section
/-! `timer.advance` in closed form: the thresholds its loop takes off, and TIMA after that many increments
(60_exceptions.md R420). -/

namespace Sys2Proof.Machine

/-! ## TIMA after some increments -/

/-- `u` shows TIMA `k` increments after `t`, and `o` whether one of them overflowed: from the first overflow
on, TIMA goes round the bytes from TMA to 0xFF. -/
structure Timer.Counted (t : Timer) (k : Nat) (u : Timer) (o : Bool) : Prop where
  within : t.tima.toNat + k < 256 → u.tima.toNat = t.tima.toNat + k ∧ o = false
  overflow : 256 ≤ t.tima.toNat + k →
    u.tima.toNat = t.tma.toNat + (t.tima.toNat + k - 256) % (256 - t.tma.toNat) ∧ o = true

theorem Timer.Counted.zero (t : Timer) : t.Counted 0 t false :=
  ⟨fun _ => ⟨rfl, rfl⟩, fun h => absurd h (Nat.not_le_of_lt t.tima.isLt)⟩

theorem Timer.tick_overflow {t : Timer} (h : t.tima = 0xFF) : t.tick = ({ t with tima := t.tma }, true) :=
  if_pos h

theorem Timer.tick_increment {t : Timer} (h : t.tima ≠ 0xFF) :
    t.tick = ({ t with tima := t.tima + 1 }, false) :=
  if_neg h

/-- One increment before `k` others: an overflow puts TIMA at TMA, so that the rest goes round the same
bytes. -/
theorem Timer.Counted.of_tick {t u : Timer} {k : Nat} {o : Bool} (h : t.tick.1.Counted k u o) :
    t.Counted (k + 1) u (t.tick.2 || o) := by
  by_cases hff : t.tima = 0xFF
  · rw [Timer.tick_overflow hff] at h ⊢
    have htima : t.tima.toNat = 255 := congrArg BitVec.toNat hff
    have hrest : t.tima.toNat + (k + 1) - 256 = k := by omega
    refine ⟨fun hk => by omega, fun _ => ⟨?_, rfl⟩⟩
    rw [hrest]
    -- After the overflow `k` increments are left, and TMA is `256 - TMA` increments short of the next one.
    rcases Nat.lt_or_ge (t.tma.toNat + k) 256 with hk | hk
    · rw [Nat.mod_eq_of_lt (Nat.lt_sub_iff_add_lt'.mpr hk)]
      exact (h.within hk).1
    · rw [Nat.mod_eq_sub_mod (Nat.sub_le_iff_le_add'.mpr hk), Nat.sub_sub_right k t.tma.isLt.le,
        Nat.add_comm k]
      exact (h.overflow hk).1
  · rw [Timer.tick_increment hff] at h ⊢
    obtain ⟨hwithin, hoverflow⟩ := h
    have hne : t.tima.toNat ≠ 255 := fun h255 => hff (BitVec.eq_of_toNat_eq h255)
    have htima : (t.tima + 1).toNat = t.tima.toNat + 1 := by
      rw [toNat_succ8, Nat.mod_eq_of_lt (by omega)]
    simp only [htima, Nat.add_assoc, Nat.add_comm 1 k] at hwithin hoverflow
    exact ⟨hwithin, hoverflow⟩

/-! ## The loop -/

/-- One threshold taken off the accumulator. -/
def Timer.spend (t : Timer) : Timer := { t with timaAcc := t.timaAcc - t.threshold }

theorem Timer.spend_tick_timaAcc (t : Timer) : t.spend.tick.1.timaAcc = t.timaAcc - t.threshold := by
  rw [Timer.tick_leaves]
  rfl

theorem Timer.spend_tick_threshold (t : Timer) : t.spend.tick.1.threshold = t.threshold := by
  rw [Timer.tick_leaves]
  rfl

/-- A round of the loop spends one threshold on one increment. -/
theorem Timer.drain_succ (n : Nat) {t : Timer} (h : t.threshold ≤ t.timaAcc) :
    Timer.drain (n + 1) t =
      ((Timer.drain n t.spend.tick.1).1, t.spend.tick.2 || (Timer.drain n t.spend.tick.1).2) :=
  if_pos h

theorem Timer.drain_of_lt (n : Nat) {t : Timer} (h : t.timaAcc < t.threshold) :
    Timer.drain n t = (t, false) := by
  cases n with
  | zero => rfl
  | succ n => exact if_neg (Nat.not_le_of_lt h)

/-- With rounds enough, the loop keeps the remainder of the accumulator and increments TIMA once for each
threshold in it. -/
theorem Timer.drain_counted (n : Nat) (t : Timer) (hn : t.timaAcc ≤ n) :
    (Timer.drain n t).1.timaAcc = t.timaAcc % t.threshold
      ∧ t.Counted (t.timaAcc / t.threshold) (Timer.drain n t).1 (Timer.drain n t).2 := by
  have hpos := t.threshold_pos
  rcases Nat.lt_or_ge t.timaAcc t.threshold with hlt | hle
  · rw [Timer.drain_of_lt n hlt, Nat.mod_eq_of_lt hlt, Nat.div_eq_of_lt hlt]
    exact ⟨rfl, .zero t⟩
  · cases n with
    | zero => omega
    | succ n =>
      have hacc := t.spend_tick_timaAcc
      obtain ⟨hmod, hcounted⟩ := Timer.drain_counted n t.spend.tick.1 (by omega)
      rw [hacc, t.spend_tick_threshold] at hmod hcounted
      rw [Timer.drain_succ n hle, Nat.mod_eq_sub_mod hle, Nat.div_eq_sub_div (by omega) hle]
      exact ⟨hmod, hcounted.of_tick.within, hcounted.of_tick.overflow⟩

/-! ## The timer and the machine -/

theorem Timer.advance_off {t : Timer} (n : Nat) (h : t.tac.getLsbD 2 = false) :
    t.advance n = ({ t with divCounter := t.divCounter + BitVec.ofNat 16 n }, false) :=
  if_neg (ne_true_of_eq_false h)

theorem Timer.advance_on {t : Timer} (n : Nat) (h : t.tac.getLsbD 2 = true) :
    t.advance n = Timer.drain (t.timaAcc + n)
      { t with divCounter := t.divCounter + BitVec.ofNat 16 n, timaAcc := t.timaAcc + n } :=
  if_pos h

/-- DIV's counter rises whether TIMA runs or not. -/
theorem Timer.advance_divCounter (t : Timer) (n : Nat) :
    (t.advance n).1.divCounter = t.divCounter + BitVec.ofNat 16 n := by
  cases h : t.tac.getLsbD 2 with
  | false => rw [Timer.advance_off n h]
  | true => rw [Timer.advance_on n h, Timer.drain_leaves]

/-- Running, the timer keeps the remainder of its accumulator and increments TIMA once for each threshold in
it. -/
theorem Timer.advance_counted {t : Timer} (n : Nat) (h : t.tac.getLsbD 2 = true) :
    (t.advance n).1.timaAcc = (t.timaAcc + n) % t.threshold
      ∧ t.Counted ((t.timaAcc + n) / t.threshold) (t.advance n).1 (t.advance n).2 := by
  rw [Timer.advance_on n h]
  obtain ⟨hmod, hcounted⟩ := Timer.drain_counted (t.timaAcc + n)
    { t with divCounter := t.divCounter + BitVec.ofNat 16 n, timaAcc := t.timaAcc + n } (Nat.le_refl _)
  exact ⟨hmod, hcounted.within, hcounted.overflow⟩

/-- An advance writes the timer and, on an overflow, IF bit 2. -/
theorem State.timerAdvance_eq (s : State) (n : Nat) :
    s.timerAdvance n = { s with
      timer := (s.timer.advance n).1
      io := if (s.timer.advance n).2 then { s.io with ifl := s.io.ifl ||| 0x04 } else s.io } := by
  unfold State.timerAdvance
  obtain ⟨u, o⟩ := s.timer.advance n
  cases o <;> rfl

/-- DIV reads as the high byte of its counter, boot overlay or not (10_state.md R37). -/
theorem State.memRead_div (s : State) : s.memRead 0xFF04 = .ok (hiByte s.timer.divCounter) := by
  unfold State.memRead
  rw [decide_eq_false (by decide), Bool.and_false]
  rfl

/-- Settles O52: DIV and the frame whether TIMA runs or not, and TIMA by the thresholds crossed. -/
theorem timerAdvances : Obligations.TimerAdvances := by
  intro s n t th k tima tma
  have htimer : t.timer = (s.timer.advance n).1 := congrArg State.timer (s.timerAdvance_eq n)
  have hio := congrArg State.io (s.timerAdvance_eq n)
  have hframe := (s.timerAdvance_deviceFrame n).timer
  have hth : th = s.timer.threshold := by
    unfold Timer.threshold
    rw [BitVec.extractLsb'_toNat]
    rfl
  refine ⟨?_, ?_, t.memRead_div, ?_, ?_, fun hoff => ?_, fun hon => ?_⟩
  · rw [htimer, hio]
    exact s.timerAdvance_eq n
  · rw [htimer, Timer.advance_divCounter, BitVec.toNat_add, BitVec.toNat_ofNat, Nat.add_mod_mod]
  · exact (congrArg Timer.tma hframe :)
  · exact (congrArg Timer.tac hframe :)
  · rw [htimer, hio, Timer.advance_off n hoff]
    exact ⟨rfl, rfl, rfl⟩
  · obtain ⟨hmod, hcounted⟩ := Timer.advance_counted n hon
    rw [← hth, ← htimer] at hmod hcounted
    refine ⟨hmod, fun hk => ?_, fun hk => ?_⟩
    · obtain ⟨htima, hflag⟩ := hcounted.within hk
      exact ⟨htima, hio.trans (by rw [hflag]; rfl)⟩
    · obtain ⟨htima, hflag⟩ := hcounted.overflow hk
      exact ⟨htima, hio.trans (by rw [hflag]; rfl)⟩

end Sys2Proof.Machine
end

section
/-! The encoding: decoding after encoding, and encoding after decoding, for any bytes that follow
(30_encoding.md R130, R138 to R144). -/

namespace Sys2Proof

/-- The bytes after an instruction are left as they are. -/
theorem decode_append {bytes rest left : List Byte} {i : Instr} (h : decode bytes = .ok (i, left)) :
    decode (bytes ++ rest) = .ok (i, left ++ rest) := by
  cases bytes with
  | nil => cases h
  | cons op tail =>
    rw [List.cons_append]
    simp only [decode] at h ⊢
    split at h
    · cases h
      rfl
    · cases tail <;> cases h
      rfl
    · split at h <;> cases h
      rfl

/-- The bytes of a well-formed instruction decode to it: the one idea is that the two bytes of a 16-bit
immediate put together are the immediate, and the rest is the table's. -/
theorem decode_encode (i : Instr) : Laws.RoundTrip.Statement i := by
  cases i with
  | prefixCb cbop => exact Laws.RoundTrip.prefixCb cbop
  | ldBcN16 n => exact Laws.RoundTrip.ldBcN16 n
  | ldIndA16Sp a => exact Laws.RoundTrip.ldIndA16Sp a
  | ldDeN16 n => exact Laws.RoundTrip.ldDeN16 n
  | ldHlN16 n => exact Laws.RoundTrip.ldHlN16 n
  | ldSpN16 n => exact Laws.RoundTrip.ldSpN16 n
  | jpNzA16 a => exact Laws.RoundTrip.jpNzA16 a
  | jpA16 a => exact Laws.RoundTrip.jpA16 a
  | callNzA16 a => exact Laws.RoundTrip.callNzA16 a
  | jpZA16 a => exact Laws.RoundTrip.jpZA16 a
  | callZA16 a => exact Laws.RoundTrip.callZA16 a
  | callA16 a => exact Laws.RoundTrip.callA16 a
  | jpNcA16 a => exact Laws.RoundTrip.jpNcA16 a
  | callNcA16 a => exact Laws.RoundTrip.callNcA16 a
  | jpCA16 a => exact Laws.RoundTrip.jpCA16 a
  | callCA16 a => exact Laws.RoundTrip.callCA16 a
  | ldIndA16A a => exact Laws.RoundTrip.ldIndA16A a
  | ldAIndA16 a => exact Laws.RoundTrip.ldAIndA16 a
  | _ => exact fun _ => rfl

/-- Settles O1, from the round trip of each instruction with nothing after it. -/
theorem decodeInvertsEncode : Obligations.DecodeInvertsEncode :=
  fun i _ h => decode_append (decode_encode i h)

/-! ## Encoding what was decoded -/

/-- The bytes of an instruction whose opcode is `op`, by the length the opcode gives (30_encoding.md R130). -/
def opcodeBytes (op x y : Byte) : List Byte :=
  if threeByteOpcodes.contains op.toNat then encode3 op (word16 y x)
  else if twoByteOpcodes.contains op.toNat then encode2 op x
  else encode1 op

theorem opcodeBytes_eq_take (op x y : Byte) : opcodeBytes op x y = [op, x, y].take (instrLength op) := by
  unfold opcodeBytes instrLength
  split
  · rw [encode3, Machine.loByte_word16, Machine.hiByte_word16]
    rfl
  split <;> rfl

theorem decodeCb_faithful (x : Byte) :
    (decodeCb x).wellFormed = true ∧ encode (decodeCb x) = encode2 0xCB x := by
  revert x
  decide

/-- Any opcode but STOP, whose second byte is free, and 0xCB: one opcode a row of the map. -/
theorem decodeBytes_faithful_primary {n : Nat} (hn : n < 256) (hstop : n ≠ 0x10) (hcb : n ≠ 0xCB)
    (x y : Byte) :
    (decodeBytes (BitVec.ofNat 8 n) x y).wellFormed = true
      ∧ encode (decodeBytes (BitVec.ofNat 8 n) x y) = opcodeBytes (BitVec.ofNat 8 n) x y := by
  obtain h | ⟨hlo, hhi⟩ | h : n < 0x10 ∨ 0x10 < n ∧ n < 0xCB ∨ 0xCB < n := by omega
  · interval_cases n <;> exact ⟨rfl, rfl⟩
  · interval_cases n <;> exact ⟨rfl, rfl⟩
  · interval_cases n <;> exact ⟨rfl, rfl⟩

/-- What the decoder gives is well formed and, but for STOP, encodes to the bytes read. -/
theorem decodeBytes_faithful (op x y : Byte) :
    (decodeBytes op x y).wellFormed = true
      ∧ (op ≠ 0x10 → encode (decodeBytes op x y) = opcodeBytes op x y) := by
  by_cases hstop : op = 0x10
  · subst hstop
    exact ⟨rfl, fun h => absurd rfl h⟩
  by_cases hcb : op = 0xCB
  · subst hcb
    exact ⟨(decodeCb_faithful x).1, fun _ => (decodeCb_faithful x).2⟩
  obtain ⟨hwf, hbytes⟩ := decodeBytes_faithful_primary op.isLt
    (fun h => hstop (BitVec.eq_of_toNat_eq h)) (fun h => hcb (BitVec.eq_of_toNat_eq h)) x y
  rw [BitVec.ofNat_toNat, BitVec.setWidth_eq] at hwf hbytes
  exact ⟨hwf, fun _ => hbytes⟩

theorem instrLength_cases (op : Byte) : instrLength op = 1 ∨ instrLength op = 2 ∨ instrLength op = 3 := by
  unfold instrLength
  split
  · exact .inr (.inr rfl)
  split
  · exact .inr (.inl rfl)
  · exact .inl rfl

/-- Three bytes decode to what the bytes of the opcode's length give. -/
theorem decode_three (op x y : Byte) (rest : List Byte) :
    ∃ x' y', decode (op :: x :: y :: rest)
        = .ok (decodeBytes op x' y', (op :: x :: y :: rest).drop (instrLength op))
      ∧ [op, x', y'].take (instrLength op) = [op, x, y].take (instrLength op) := by
  simp only [decode]
  obtain h | h | h := instrLength_cases op <;> rw [h]
  · exact ⟨0, 0, rfl, rfl⟩
  · exact ⟨x, 0, rfl, rfl⟩
  · exact ⟨x, y, rfl, rfl⟩

/-- Settles O2, from the faithfulness of the decoder on the bytes it reads. -/
theorem decodeTotalAndFaithful : Obligations.DecodeTotalAndFaithful := by
  intro op x y rest
  obtain ⟨x', y', hdecode, htake⟩ := decode_three op x y rest
  obtain ⟨hwf, hbytes⟩ := decodeBytes_faithful op x' y'
  exact ⟨_, hdecode, hwf, fun h => by rw [hbytes h, opcodeBytes_eq_take, htake]⟩

/-- Settles O3: each word by the decoder's own computation. -/
theorem specWordsDecode : Obligations.SpecWordsDecode :=
  ⟨rfl, rfl, rfl, rfl, rfl, rfl, rfl, rfl, rfl, rfl, rfl⟩

/-! ## The opcode of what was decoded -/

theorem head_encode_decodeBytes (op x y : Byte) : (encode (decodeBytes op x y)).head? = some op := by
  by_cases hstop : op = 0x10
  · subst hstop
    rfl
  · rw [(decodeBytes_faithful op x y).2 hstop]
    unfold opcodeBytes
    split
    · rfl
    split <;> rfl

/-- An instruction is decoded from one opcode only. -/
theorem opcode_of_decodeBytes {op op' x y x' y' : Byte} (h : decodeBytes op x y = decodeBytes op' x' y') :
    op = op' := by
  have hhead := head_encode_decodeBytes op x y
  rw [h, head_encode_decodeBytes] at hhead
  exact (Option.some.inj hhead).symm

/-! ## The CB pair -/

namespace Machine

/-- The fields of a CB byte select the row that its map names (30_encoding.md R132, R140). -/
theorem runCb_eq_row (cbop : Byte) (s : State) : runCb cbop s = exec (decodeCb cbop) s := by
  have hrow : ∀ n < 256, runCb (BitVec.ofNat 8 n) s = exec (decodeCb (BitVec.ofNat 8 n)) s := by
    intro n hn
    interval_cases n <;> rfl
  have h := hrow cbop.toNat cbop.isLt
  rwa [BitVec.ofNat_toNat, BitVec.setWidth_eq] at h

/-- Where the controller allows the RAM window, an answer that only an access can turn into a fault is a next
state. -/
theorem State.Sound.completes {s : State} {x : Result} (h : s.Sound x) (ha : s.cart.mbc.allowsRam = true) :
    ∃ t, x = .next t := by
  cases x with
  | next t => exact ⟨t, rfl⟩
  | fault f =>
    rw [(h.fault f rfl).refuses.not_allows] at ha
    cases ha
  | refused q => exact absurd rfl (h.refused q)

/-- Settles O50: the pair runs the row by its fields, and a row's only faults are its accesses'. -/
theorem prefixRunsRow : Obligations.PrefixRunsRow :=
  fun cbop s => ⟨runCb_eq_row cbop s, fun _ => rfl, fun h => (runCb_sound s cbop).completes h⟩

end Machine

end Sys2Proof
end

section
/-! The step: what a fetch reads and leaves, which of its three forms a step of the CPU takes, and what a
step that answers has done (60_exceptions.md R354 to R357). -/

namespace Sys2Proof.Machine

/-! ## A read and the CPU -/

theorem State.orRaise_ok_iff {α : Type} {s : State} {x : Except UnmodelledReason α} {v : α} :
    s.orRaise x = .ok v ↔ x = .ok v :=
  ⟨State.orRaise_ok, fun h => h ▸ rfl⟩

/-- Whether a read goes through, and the byte it gives, do not depend on the CPU. -/
theorem State.memRead_cpu_ok {s : State} (c : Cpu) {a : Word} {v : Byte} :
    ({ s with cpu := c } : State).memRead a = .ok v ↔ s.memRead a = .ok v := by
  simp only [State.memRead]
  split
  · exact Iff.rfl
  split
  · exact Iff.rfl
  split
  · exact Iff.rfl
  split
  · rw [State.orRaise_ok_iff, State.orRaise_ok_iff]
  · exact Iff.rfl

/-! ## The fetch -/

/-- PC after the opcode fetch, which under the HALT bug leaves it (60_exceptions.md R355). -/
def State.afterOpcode (s : State) : Word := if s.cpu.haltBug then s.cpu.pc else s.cpu.pc + 1

/-- `s` after the fetch of an opcode and `k` bytes more. -/
def State.fetched (s : State) (k : Nat) : State :=
  { s with cpu := { s.cpu with
    haltBug := false, opPc := s.cpu.pc, pc := s.afterOpcode + BitVec.ofNat 16 k } }

theorem State.fetch8_ok_iff {s t : State} {v : Byte} :
    s.fetch8 = .ok (v, t) ↔ s.memRead s.cpu.pc = .ok v ∧ t = s.setPc (s.cpu.pc + 1) := by
  unfold State.fetch8
  rw [← State.load_ok]
  cases s.load s.cpu.pc <;> simp [eq_comm]

theorem State.fetchOpcode_ok_iff {s t : State} {op : Byte} :
    s.fetchOpcode = .ok (op, t) ↔ s.memRead s.cpu.pc = .ok op
      ∧ t = if s.cpu.haltBug then s.setHaltBug false else s.setPc (s.cpu.pc + 1) := by
  unfold State.fetchOpcode
  rw [← State.load_ok, @eq_comm _ t]
  cases s.load s.cpu.pc <;> simp

/-- The opcode's fetch in `fetchInstr`, with `pc0` noted first. -/
theorem State.setOpPc_fetchOpcode {s t : State} {op : Byte} :
    (s.setOpPc s.cpu.pc).fetchOpcode = .ok (op, t) ↔ s.memRead s.cpu.pc = .ok op ∧ t = s.fetched 0 := by
  have hleft : s.fetched 0 = if s.cpu.haltBug then (s.setOpPc s.cpu.pc).setHaltBug false
      else (s.setOpPc s.cpu.pc).setPc (s.cpu.pc + 1) := by
    rw [State.fetched, BitVec.add_zero, State.afterOpcode]
    cases hb : s.cpu.haltBug with
    | true => rfl
    | false => simp [State.setOpPc, State.setPc, hb]
  rw [State.fetchOpcode_ok_iff, hleft]
  exact and_congr_left' (State.memRead_cpu_ok _)

/-- The address of the operand byte that follows `k` others. -/
def State.operandAt (s : State) (k : Nat) : Word := s.afterOpcode + BitVec.ofNat 16 k

theorem State.fetched_fetch8 {s t : State} {k : Nat} {v : Byte} :
    (s.fetched k).fetch8 = .ok (v, t) ↔ s.memRead (s.operandAt k) = .ok v ∧ t = s.fetched (k + 1) := by
  have hnext : (s.fetched k).setPc (s.operandAt k + 1) = s.fetched (k + 1) := by
    have hpc : s.operandAt k + 1 = s.operandAt (k + 1) := by
      rw [State.operandAt, State.operandAt, BitVec.ofNat_add, ← BitVec.add_assoc]
      rfl
    rw [hpc]
    rfl
  rw [State.fetch8_ok_iff, ← hnext]
  exact and_congr_left' (State.memRead_cpu_ok _)

theorem operandCount_cases (op : Byte) :
    operandCount op = 0 ∨ operandCount op = 1 ∨ operandCount op = 2 := by
  unfold operandCount instrLength
  repeat' split
  all_goals decide

theorem State.fetchOperands_frame {s t : State} {op x y : Byte}
    (h : (s.fetched 0).fetchOperands op = .ok (x, y, t)) : t = s.fetched (operandCount op) := by
  unfold State.fetchOperands at h
  have hcases := operandCount_cases op
  split at h
  · next hc =>
    cases h
    rw [hc]
  · next hc =>
    split at h <;> cases h
    next hx =>
    rw [hc]
    exact (State.fetched_fetch8.mp hx).2
  · next h0 h1 =>
    rw [(hcases.resolve_left h0).resolve_left h1]
    split at h
    · cases h
    next hx =>
    obtain ⟨-, rfl⟩ := State.fetched_fetch8.mp hx
    split at h <;> cases h
    next hy => exact (State.fetched_fetch8.mp hy).2

theorem State.fetchOperands_ok {s : State} {op x y : Byte}
    (hx : 1 ≤ operandCount op → s.memRead (s.operandAt 0) = .ok x)
    (hy : 2 ≤ operandCount op → s.memRead (s.operandAt 1) = .ok y) :
    (s.fetched 0).fetchOperands op = .ok (if 1 ≤ operandCount op then x else 0,
      if 2 ≤ operandCount op then y else 0, s.fetched (operandCount op)) := by
  unfold State.fetchOperands
  obtain hc | hc | hc := operandCount_cases op <;> rw [hc] at hx hy ⊢
  · rfl
  · simp only [State.fetched_fetch8.mpr ⟨hx (by decide), rfl⟩]
    rfl
  · simp only [State.fetched_fetch8.mpr ⟨hx (by decide), rfl⟩, State.fetched_fetch8.mpr ⟨hy (by decide), rfl⟩]
    rfl

/-- What a fetch that goes through has read and left. -/
theorem State.fetchInstr_frame {s t : State} {i : Instr} (h : s.fetchInstr = .ok (i, t)) :
    ∃ op x y, s.memRead s.cpu.pc = .ok op ∧ i = decodeBytes op x y ∧ t = s.fetched (operandCount op) := by
  unfold State.fetchInstr at h
  split at h
  · cases h
  next op u hu =>
  obtain ⟨hop, rfl⟩ := State.setOpPc_fetchOpcode.mp hu
  split at h <;> cases h
  next x y hxy => exact ⟨op, x, y, hop, rfl, State.fetchOperands_frame hxy⟩

/-- A fetch whose reads go through. -/
theorem State.fetchInstr_ok {s : State} {op x y : Byte} (hop : s.memRead s.cpu.pc = .ok op)
    (hx : 1 ≤ operandCount op → s.memRead (s.operandAt 0) = .ok x)
    (hy : 2 ≤ operandCount op → s.memRead (s.operandAt 1) = .ok y) :
    s.fetchInstr = .ok (decodeBytes op (if 1 ≤ operandCount op then x else 0)
      (if 2 ≤ operandCount op then y else 0), s.fetched (operandCount op)) := by
  unfold State.fetchInstr
  simp only [State.setOpPc_fetchOpcode.mpr ⟨hop, rfl⟩, State.fetchOperands_ok hx hy]

/-! ## The forms of a step -/

theorem State.fetches_iff {s : State} : s.fetches = true ↔
    s.fault = none ∧ (s.cpu.ime && s.pending != 0) = false ∧ (s.cpu.halted && s.pending == 0) = false := by
  simp only [State.fetches, Bool.and_eq_true, Bool.not_eq_true', Option.isNone_iff_eq_none, and_assoc]

theorem cpuStep_of_fetches {s : State} (h : s.fetches = true) :
    cpuStep s = runInstruction (s.setHalted false) := by
  obtain ⟨hf, hd, ht⟩ := State.fetches_iff.mp h
  simp only [cpuStep, hf, hd, ht, Bool.false_eq_true, if_false]

theorem cpuStep_of_dispatch {s : State} (hf : s.fault = none) (h : (s.cpu.ime && s.pending != 0) = true) :
    cpuStep s = s.dispatch (lowestPending s.pending) := by
  simp only [cpuStep, hf, h, if_true]

theorem cpuStep_of_tick {s : State} (hf : s.fault = none) (h : (s.cpu.halted && s.pending == 0) = true) :
    cpuStep s = .next (s.setCycles 4) := by
  have hd : (s.cpu.ime && s.pending != 0) = false := by
    rw [Bool.and_eq_true, beq_iff_eq] at h
    rw [h.2, bne_self_eq_false, Bool.and_false]
  simp only [cpuStep, hf, hd, h, Bool.false_eq_true, if_false, if_true]
  rfl

/-- Every step without a recorded fault is a dispatch, a HALT tick or an instruction. -/
theorem State.fetches_or {s : State} (hf : s.fault = none) :
    (s.cpu.ime && s.pending != 0) = true ∨ (s.cpu.halted && s.pending == 0) = true ∨ s.fetches = true := by
  rw [State.fetches_iff]
  cases s.cpu.ime && s.pending != 0 <;> cases s.cpu.halted && s.pending == 0 <;> simp [hf]

theorem cpuStep_of_fault {s : State} {r : FaultRecord} (h : s.fault = some r) :
    cpuStep s = .fault (s.stop r) := by
  simp only [cpuStep, h]

theorem runInstruction_next {s t : State} : runInstruction s = .next t ↔
    ∃ i u v, s.fetchInstr = .ok (i, u) ∧ exec i u = .next v ∧ v.finishEi s.cpu.imeScheduled = t := by
  simp only [runInstruction, andThen_next, onNext_next, Prod.exists, exists_and_left]

/-- What the CPU's part of a step can have done. -/
inductive State.Ran (s : State) : State → Prop where
  | dispatch {m : State} (enabled : (s.cpu.ime && s.pending != 0) = true)
    (push : (s.enterDispatch (lowestPending s.pending)).push16 s.returnAddress = .ok m) :
    s.Ran ((m.setPc (vector (lowestPending s.pending))).setCycles 20)
  | tick (halted : (s.cpu.halted && s.pending == 0) = true) : s.Ran (s.setCycles 4)
  | instruction {op x y : Byte} {t : State} (fetches : s.fetches = true)
    (opcode : s.memRead s.cpu.pc = .ok op)
    (run : exec (decodeBytes op x y) ((s.setHalted false).fetched (operandCount op)) = .next t) :
    s.Ran (t.finishEi s.cpu.imeScheduled)

theorem cpuStep_next_of_fetches {s t : State} (hf : s.fetches = true) (h : cpuStep s = .next t) :
    ∃ op x y v, s.memRead s.cpu.pc = .ok op
      ∧ exec (decodeBytes op x y) ((s.setHalted false).fetched (operandCount op)) = .next v
      ∧ t = v.finishEi s.cpu.imeScheduled := by
  rw [cpuStep_of_fetches hf] at h
  obtain ⟨i, u, v, hfetch, hexec, rfl⟩ := runInstruction_next.mp h
  obtain ⟨op, x, y, hop, rfl, rfl⟩ := State.fetchInstr_frame hfetch
  rw [State.memRead_setHalted] at hop
  exact ⟨op, x, y, v, hop, hexec, rfl⟩

theorem cpuStep_next {s t : State} (h : cpuStep s = .next t) : s.fault = none ∧ s.Ran t := by
  cases hf : s.fault with
  | some r =>
    rw [cpuStep_of_fault hf] at h
    cases h
  | none =>
    refine ⟨rfl, ?_⟩
    obtain hd | ht | hi := State.fetches_or hf
    · rw [cpuStep_of_dispatch hf hd] at h
      obtain ⟨m, hm, rfl⟩ := State.dispatch_next.mp h
      exact .dispatch hd hm
    · rw [cpuStep_of_tick hf ht] at h
      cases h
      exact .tick ht
    · obtain ⟨op, x, y, v, hop, hexec, rfl⟩ := cpuStep_next_of_fetches hi h
      exact .instruction hi hop hexec

/-- What a step that answers has done: the CPU's part, then the devices. -/
theorem step_next {s t : State} (h : step s = .next t) : s.fault = none ∧ ∃ u, s.Ran u ∧ t = u.devices := by
  obtain ⟨u, hu, rfl⟩ := onNext_next.mp h
  obtain ⟨hf, hr⟩ := cpuStep_next hu
  exact ⟨hf, u, hr, rfl⟩

/-- What a step that fetches and answers has done. -/
theorem step_next_of_fetches {s t : State} (hf : s.fetches = true) (h : step s = .next t) :
    ∃ op x y v, s.memRead s.cpu.pc = .ok op
      ∧ exec (decodeBytes op x y) ((s.setHalted false).fetched (operandCount op)) = .next v
      ∧ t = (v.finishEi s.cpu.imeScheduled).devices := by
  obtain ⟨u, hu, rfl⟩ := onNext_next.mp h
  obtain ⟨op, x, y, v, hop, hexec, rfl⟩ := cpuStep_next_of_fetches hf hu
  exact ⟨op, x, y, v, hop, hexec, rfl⟩

/-- A step that fetches an opcode without operands runs it. -/
theorem step_of_opcode {s v : State} {op : Byte} (hf : s.fetches = true) (hop : s.memRead s.cpu.pc = .ok op)
    (hcount : operandCount op = 0) (h : exec (decodeBytes op 0 0) ((s.setHalted false).fetched 0) = .next v) :
    step s = .next (v.finishEi s.cpu.imeScheduled).devices := by
  have hfetch := State.fetchInstr_ok (s := s.setHalted false) (x := 0) (y := 0)
    ((State.memRead_setHalted ..).trans hop) (by omega) (by omega)
  simp only [hcount] at hfetch
  rw [step, cpuStep_of_fetches hf, runInstruction_next.mpr ⟨_, _, v, hfetch, h, rfl⟩]
  rfl

end Sys2Proof.Machine
end

section
/-! What every step keeps: the launch, the ROM and the invariant of the machine (10_state.md, 60_exceptions.md
R351, R354, R357). -/

namespace Sys2Proof.Machine

/-! ## A step of the CPU and what no store changes -/

/-- What no store changes, whatever the CPU. -/
theorem State.StoreFrame.withCpu {s t : State} {c : Cpu}
    (h : ({ s with cpu := c } : State).StoreFrame { t with cpu := c }) :
    s.StoreFrame { t with cpu := s.cpu } :=
  ⟨rfl, h.params, h.fault, h.joypad, h.boot, h.acc, h.frame, h.frameReady, h.coincidence, h.rom, h.romSize,
    h.romBankCount, h.ramSize, h.ramBankCount, h.remapZero, h.unusable⟩

theorem State.acknowledge_storeFrame (s : State) (i : Fin 8) : s.StoreFrame (s.acknowledge i) :=
  ⟨rfl, rfl, rfl, rfl, id, rfl, rfl, rfl, rfl, rfl, rfl, rfl, rfl, rfl, rfl, fun _ _ _ => rfl⟩

/-- A push leaves the CPU but for SP. -/
theorem State.push16_cpu {s m : State} {v : Word} (h : s.push16 v = .ok m) :
    m.cpu = { s.cpu with sp := s.cpu.sp - 2 } := by
  obtain ⟨m₁, m₂, h1, h2, rfl⟩ := State.push16_ok_iff.mp h
  have hp : s.Pushed v m₁ m₂ := ⟨h1, h2⟩
  rw [State.setSp, hp.cpu]

/-- A dispatch is two stores and a change of the CPU. -/
theorem State.dispatch_effect {s m : State} {i : Fin 8} (h : (s.enterDispatch i).push16 s.returnAddress = .ok m) :
    (s.enterDispatch i).Effect ((m.setPc (vector i)).setCycles 20) :=
  .push h (.cpu id rfl (.same rfl))

theorem State.finishEi_eq (t : State) (scheduled : Bool) :
    t.finishEi scheduled = { t with cpu := (t.finishEi scheduled).cpu } := by
  unfold State.finishEi
  split <;> rfl

/-- The CPU's part of a step changes nothing that no store changes, but the CPU. -/
theorem State.Ran.storeFrame {s u : State} (h : s.Ran u) : s.StoreFrame { u with cpu := s.cpu } := by
  cases h with
  | dispatch _ push =>
    exact (s.acknowledge_storeFrame _).trans ((State.dispatch_effect push).frame.withCpu (s := s.acknowledge _))
  | tick => exact .refl s
  | @instruction op x y t _ _ run =>
    have h := ((exec_answers _ _).next t run).frame.withCpu (s := s)
    rw [State.finishEi_eq]
    exact h

theorem State.memRead_unusable (s : State) {a : Word} (h1 : 0xFEA0 ≤ a.toNat) (h2 : a.toNat ≤ 0xFEFF) :
    s.memRead a = .ok (s.array a.toNat) := by
  rw [State.memRead, decide_eq_false (by omega), Bool.and_false, if_neg Bool.false_ne_true, if_neg (by omega),
    if_neg (by omega), if_neg (by omega), if_neg (by omega), if_neg (by omega), if_pos h2]

/-- Settles O14, from what no store changes and what the devices leave. -/
theorem stepKeepsLaunch : Obligations.StepKeepsLaunch := by
  intro s t h
  obtain ⟨hf, u, hran, rfl⟩ := step_next h
  have hs := hran.storeFrame
  have hd := u.devices_deviceFrame
  rw [hd.params, hd.fault, hd.cart]
  refine ⟨hs.params, (congrArg Io.joypad hd.io).trans hs.joypad, hs.fault.trans hf, hs.rom, hs.romSize,
    hs.romBankCount, hs.ramSize, hs.ramBankCount, hs.remapZero,
    fun hb => hs.boot ((congrArg Io.bootEnabled hd.io).symm.trans hb), fun a h1 h2 => ?_⟩
  rw [State.memRead_unusable _ h1 h2, State.memRead_unusable _ h1 h2, State.array, hd.mem]
  exact congrArg _ (hs.unusable _ h1 h2)

/-! ## The invariant before the devices -/

/-- The invariant but for the control bits, and for the timer's threshold, which TAC may just have changed. -/
structure State.DataInv (s : State) : Prop where
  flags : s.cpu.f &&& 0x0F = 0
  store : s.StoreInv
  acc : s.timer.timaAcc < 1024
  rom : Memory.wf s.cart.rom = true
  image : Memory.wf s.params.bootImage = true
  frame : Cells.wf s.ppu.frame = true

/-- The invariant of the control bits (60_exceptions.md R357, 45_system.md R331). -/
structure Cpu.ControlInv (eiDelay : Bool) (c : Cpu) : Prop where
  haltOrBug : ¬(c.halted = true ∧ c.haltBug = true)
  haltNotScheduled : c.halted = true → c.imeScheduled = false
  delayOnly : eiDelay = false → c.imeScheduled = false

theorem State.Inv.data {s : State} (h : s.Inv) : s.DataInv :=
  ⟨h.flags, ⟨h.statBits, h.ppu, h.bank, h.mem, h.ram, h.ram4⟩, h.timer.bounded, h.rom, h.image, h.frame⟩

theorem State.Inv.control {s : State} (h : s.Inv) : s.cpu.ControlInv s.params.eiDelay :=
  ⟨h.haltOrBug, h.haltNotScheduled, h.delayOnly⟩

theorem State.DataInv.withCpu {s : State} (h : s.DataInv) {c : Cpu} (hf : c.f = s.cpu.f) :
    ({ s with cpu := c } : State).DataInv := by
  obtain ⟨flags, ⟨stat, ppu, bank, mem, ram, ram4⟩, acc, rom, image, frame⟩ := h
  exact ⟨hf ▸ flags, ⟨stat, ppu, bank, mem, ram, ram4⟩, acc, rom, image, frame⟩

theorem State.DataInv.acknowledge {s : State} (h : s.DataInv) (i : Fin 8) : (s.acknowledge i).DataInv := by
  obtain ⟨flags, ⟨stat, ppu, bank, mem, ram, ram4⟩, acc, rom, image, frame⟩ := h
  exact ⟨flags, ⟨stat, ppu, bank, mem, ram, ram4⟩, acc, rom, image, frame⟩

theorem State.Effect.data {s t : State} (e : s.Effect t) (h : s.DataInv) : t.DataInv :=
  ⟨e.flags h.flags, e.kept h.store, e.frame.acc.trans_lt h.acc, e.frame.rom ▸ h.rom,
    (congrArg (Memory.wf ·.bootImage) e.frame.params).trans h.image, e.frame.frame ▸ h.frame⟩

/-- What an instruction that began awake does to the control bits. -/
theorem Cpu.Steers.awake {e : Bool} {c d : Cpu} (h : Cpu.Steers e c d) (hhalt : c.halted = false)
    (hbug : c.haltBug = false) :
    ¬(d.halted = true ∧ d.haltBug = true) ∧ (d.halted = true → d.imeScheduled = c.imeScheduled)
      ∧ (e = false → c.imeScheduled = false → d.imeScheduled = false) := by
  obtain h | h | h | h | ⟨he, h⟩ | h | h := h
  all_goals
    simp only [Cpu.control, Prod.mk.injEq] at h
    obtain ⟨-, hs, hh, hb⟩ := h
    simp [hs, hh, hb, hhalt, hbug]
  exact fun h0 => absurd (he.symm.trans h0) (by decide)

/-- The control bits after an instruction that began awake, an EI scheduled before it taking effect. -/
theorem State.finishEi_control {r t : State} (hhalt : r.cpu.halted = false) (hbug : r.cpu.haltBug = false)
    (hdelay : r.params.eiDelay = false → r.cpu.imeScheduled = false)
    (h : Cpu.Steers r.params.eiDelay r.cpu t.cpu) :
    (t.finishEi r.cpu.imeScheduled).cpu.ControlInv r.params.eiDelay := by
  obtain ⟨hor, hsched, hoff⟩ := h.awake hhalt hbug
  unfold State.finishEi
  split
  · exact ⟨hor, fun _ => rfl, fun _ => rfl⟩
  · next hn =>
    refine ⟨hor, fun hh => ?_, fun he => hoff he (hdelay he)⟩
    rwa [← hsched hh, Bool.and_self, Bool.not_eq_true] at hn

/-- A dispatch, a HALT tick and an instruction keep the invariant but for the timer's threshold. -/
theorem State.Ran.keeps {s u : State} (h : s.Ran u) (hi : s.Inv) :
    u.DataInv ∧ u.cpu.ControlInv u.params.eiDelay := by
  have hparams := h.storeFrame.params
  cases h with
  | @dispatch m _ push =>
    have e := State.dispatch_effect push
    have hdata : (s.enterDispatch (lowestPending s.pending)).DataInv :=
      (hi.data.acknowledge (lowestPending s.pending)).withCpu rfl
    have hhalt : m.cpu.halted = false := congrArg Cpu.halted (State.push16_cpu push)
    have hsched : m.cpu.imeScheduled = false := congrArg Cpu.imeScheduled (State.push16_cpu push)
    exact ⟨e.data hdata, fun h => Bool.false_ne_true (hhalt.symm.trans h.1), fun _ => hsched, fun _ => hsched⟩
  | tick => exact ⟨hi.data.withCpu rfl, hi.control.haltOrBug, hi.control.haltNotScheduled, hi.control.delayOnly⟩
  | @instruction op x y t _ _ run =>
    have e := (exec_answers _ _).next t run
    have hdata : t.DataInv := e.data (hi.data.withCpu rfl)
    refine ⟨?_, ?_⟩
    · rw [State.finishEi_eq]
      refine hdata.withCpu ?_
      unfold State.finishEi
      split <;> rfl
    · rw [hparams]
      exact State.finishEi_control (r := (s.setHalted false).fetched _) rfl rfl hi.delayOnly e.control

/-! ## The devices -/

/-- The devices bring the timer below its threshold and keep the rest. -/
theorem State.DataInv.devices {u : State} (h : u.DataInv) (hc : u.cpu.ControlInv u.params.eiDelay) :
    u.devices.Inv := by
  have hd := u.devices_deviceFrame
  have htimer : u.devices.timer = (u.timer.advance u.cpu.cycles).1 :=
    (State.ppuStep_timer _ _).trans (congrArg State.timer (u.timerAdvance_eq _))
  have hppu := u.timerAdvance_ppu u.cpu.cycles
  constructor
  case flags => rw [hd.cpu]; exact h.flags
  case haltOrBug => rw [hd.cpu]; exact hc.haltOrBug
  case haltNotScheduled => rw [hd.cpu]; exact hc.haltNotScheduled
  case delayOnly => rw [hd.cpu, hd.params]; exact hc.delayOnly
  case statBits => exact (congrArg (·.statEnables &&& 0x87) hd.ppu).trans h.store.statBits
  case ppu => exact State.ppuStep_timed _ (hppu ▸ h.store.ppu)
  case timer => rw [htimer]; exact Timer.advance_below _ h.acc
  case bank => rw [hd.cart]; exact h.store.bank
  case mem => rw [hd.mem]; exact h.store.mem
  case rom => rw [hd.cart]; exact h.rom
  case ram => rw [hd.cart]; exact h.store.ram
  case ram4 => rw [hd.cart]; exact h.store.ram4
  case image => rw [hd.params]; exact h.image
  case frame => exact State.ppuStep_frame_wf _ (hppu ▸ h.frame)

/-- Settles O13: the CPU's part of the step keeps all but the timer's threshold, which the devices restore. -/
theorem stepKeepsInvariant : Obligations.StepKeepsInvariant := by
  intro s t hi h
  obtain ⟨-, u, hran, rfl⟩ := step_next h
  obtain ⟨hdata, hcontrol⟩ := hran.keeps hi
  exact hdata.devices hcontrol

end Sys2Proof.Machine
end

section
/-! What a step answers: the instruction it runs, the tick, the faults and their causes (60_exceptions.md
R351 to R357, R380 to R384). -/

namespace Sys2Proof.Machine

/-! ## A step that fetches -/

/-- The second byte of STOP is no operand, and the bytes past an instruction's length change nothing. -/
theorem decodeBytes_operands {op x y : Byte} {i : Instr} {rest : List Byte}
    (h : decode [op, x, y] = .ok (i, rest)) :
    decodeBytes op (if 1 ≤ operandCount op then x else 0) (if 2 ≤ operandCount op then y else 0) = i := by
  by_cases hstop : op = 0x10
  · subst hstop
    cases h
    rfl
  have hcount : operandCount op = instrLength op - 1 := if_neg hstop
  simp only [decode] at h
  obtain hl | hl | hl := instrLength_cases op <;> rw [hl] at h hcount <;> cases h <;> rw [hcount] <;> rfl

/-- Settles O4, from the fetch of the bytes given. -/
theorem stepRunsDecodedInstruction : Obligations.StepRunsDecodedInstruction := by
  intro s op x y i rest next hf hop hx hy hdecode
  have hnext : (s.setHalted false).operandAt 0 = next := BitVec.add_zero _
  have hfetch : (s.setHalted false).fetchInstr = .ok (i, (s.setHalted false).fetched (operandCount op)) := by
    rw [← decodeBytes_operands hdecode]
    refine State.fetchInstr_ok ?_ ?_ ?_
    · rw [State.memRead_setHalted]
      exact hop
    · rw [State.memRead_setHalted, hnext]
      exact hx
    · rw [State.memRead_setHalted]
      exact hy
  rw [step, cpuStep_of_fetches hf, runInstruction, hfetch]
  have hstart : (s.setHalted false).fetched (operandCount op) = { s with cpu := { s.cpu with
      halted := false, haltBug := false, opPc := s.cpu.pc
      pc := next + BitVec.ofNat 16 (operandCount op) } } := rfl
  rw [andThen_ok, hstart]
  cases exec i _ <;> rfl

/-- Settles O5: the tick, and the wake, after which the step is that of an awake CPU. -/
theorem haltTickAndWake : Obligations.HaltTickAndWake := by
  refine ⟨fun s hf hh hp => ?_, fun s hf hh hi hp => ?_⟩
  · have htick : (s.cpu.halted && s.pending == 0) = true := by
      rw [hh, State.pending, hp]
      rfl
    rw [step, cpuStep_of_tick hf htick]
    rfl
  · have hfetches : ∀ b, (s.setHalted b).fetches = true := fun b => State.fetches_iff.mpr
      ⟨hf, by rw [State.setHalted_cpu_ime, hi, Bool.false_and], by
        rw [State.setHalted_pending, State.pending, beq_eq_false_iff_ne.mpr hp, Bool.and_false]⟩
    have hs : s.setHalted true = s := by rw [State.setHalted, ← hh]
    have hwake := cpuStep_of_fetches (hfetches true)
    rw [hs] at hwake
    rw [step, hwake, step]
    exact congrArg (onNext · _) (cpuStep_of_fetches (hfetches false)).symm

/-! ## Faults -/

/-- A step never lacks a meaning. -/
theorem step_not_refused (s : State) (q : Refusal) : step s ≠ .refused q := by
  intro h
  have h := onNext_refused.mp h
  cases hf : s.fault with
  | some r =>
    rw [cpuStep_of_fault hf] at h
    cases h
  | none =>
    obtain hd | ht | hi := State.fetches_or hf
    · rw [cpuStep_of_dispatch hf hd] at h
      obtain ⟨m, -, hm⟩ := andThen_refused.mp h
      cases hm
    · rw [cpuStep_of_tick hf ht] at h
      cases h
    · rw [cpuStep_of_fetches hi] at h
      obtain ⟨⟨i, u⟩, -, hu⟩ := andThen_refused.mp h
      exact (exec_answers i u).refused q (onNext_refused.mp hu)

/-- What a step that faults has met: a refused push of a dispatch, a refused access of an instruction, or an
instruction that stops the machine by itself. -/
theorem step_fault {s : State} {f : Fault} (hf : s.fault = none) (h : step s = .fault f) :
    (s.fetches = false ∧ (s.setOpPc s.returnAddress).Faults f)
      ∨ (s.fetches = true ∧ (s.setOpPc s.cpu.pc).Faults f)
      ∨ (s.fetches = true ∧ ∃ op x y, s.memRead s.cpu.pc = .ok op
        ∧ ((s.setHalted false).fetched (operandCount op)).StopsAt (decodeBytes op x y) f) := by
  have h := onNext_fault.mp h
  obtain hd | ht | hi := State.fetches_or hf
  · rw [cpuStep_of_dispatch hf hd] at h
    refine .inl ⟨Bool.eq_false_iff.mpr fun hc => ?_, ?_⟩
    · rw [(State.fetches_iff.mp hc).2.1] at hd
      cases hd
    · obtain he | ⟨m, -, hm⟩ := andThen_fault.mp h
      · exact (State.push16_error he).of_cpu rfl rfl
      · cases hm
  · rw [cpuStep_of_tick hf ht] at h
    cases h
  · rw [cpuStep_of_fetches hi] at h
    refine .inr ?_
    obtain he | ⟨⟨i, u⟩, hu, hx⟩ := andThen_fault.mp h
    · exact .inl ⟨hi, (State.fetchInstr_faults he).of_cpu rfl rfl⟩
    · obtain ⟨op, x, y, hop, rfl, rfl⟩ := State.fetchInstr_frame hu
      rw [State.memRead_setHalted] at hop
      obtain ha | hs := (exec_answers _ _).fault f (onNext_fault.mp hx)
      · exact .inl ⟨hi, ha.of_cpu rfl rfl⟩
      · exact .inr ⟨hi, op, x, y, hop, hs⟩

/-- The fault of an access, recorded at `pc`. -/
theorem State.Faults.setOpPc {s : State} {pc : Word} {f : Fault} (h : (s.setOpPc pc).Faults f) :
    ∃ bank sel, s.cart.mbc = .mbc3 true bank sel ∧ 4 ≤ sel.toNat
      ∧ f.record = .unmodelled (.mbc3Select sel) pc :=
  h.refuses

/-- Settles O8, from what a step that faults has met. -/
theorem faultCauses : Obligations.FaultCauses := by
  refine ⟨step_not_refused, fun s f hf h => ?_⟩
  obtain ⟨hno, ha⟩ | ⟨hi, ha⟩ | ⟨hi, op, x, y, hop, hs⟩ := step_fault hf h
  · rw [hno]
    exact .inr (.inr ha.setOpPc)
  · rw [hi]
    exact .inr (.inr ha.setOpPc)
  · obtain ⟨op', hop', hdec, rfl⟩ | ⟨hdec, hm, rfl⟩ := hs
    · obtain rfl := opcode_of_decodeBytes hdec
      exact .inl ⟨op, hi, hop, hop', State.stop_record ..⟩
    · obtain rfl := opcode_of_decodeBytes (hdec.trans (show Instr.stop = decodeBytes 0x10 0 0 from rfl))
      exact .inr (.inl ⟨hi, hm, hop, State.stop_record ..⟩)

theorem State.StopsAt.recorded {s : State} {i : Instr} {f : Fault} (h : s.StopsAt i f) :
    f.left.fault = some f.record := by
  obtain ⟨_, _, _, rfl⟩ | ⟨_, _, rfl⟩ := h <;> rw [State.stop_left, State.stop_record]

theorem step_of_fault {s : State} {r : FaultRecord} (h : s.fault = some r) : step s = .fault (s.stop r) := by
  rw [step, cpuStep_of_fault h, onNext]

theorem State.stop_self {s : State} {r : FaultRecord} (h : s.fault = some r) : (s.stop r).left = s := by
  rw [State.stop_left, ← h]

/-- The state a fault leaves, stopped again with its record, is the fault. -/
theorem Fault.stop_left_record {f : Fault} (h : f.left.fault = some f.record) : f.left.stop f.record = f := by
  cases f with
  | decodeError op pc t =>
    have ht := State.stop_self h
    exact congrArg (Fault.decodeError op pc) ht
  | unmodelled reason pc t =>
    have ht := State.stop_self h
    exact congrArg (Fault.unmodelled reason pc) ht

/-- A step that faults leaves its record (60_exceptions.md R380). -/
theorem step_fault_recorded {s : State} {f : Fault} (h : step s = .fault f) :
    f.left.fault = some f.record := by
  cases hf : s.fault with
  | some r =>
    rw [step_of_fault hf] at h
    cases h
    rw [State.stop_left, State.stop_record]
  | none =>
    obtain ⟨-, ha⟩ | ⟨-, ha⟩ | ⟨-, op, x, y, -, hs⟩ := step_fault hf h
    · exact ha.recorded
    · exact ha.recorded
    · exact hs.recorded

theorem State.hostIterate_fault {s : State} {f : Fault} (h : step s = .fault f) : s.hostIterate = f.left := by
  rw [State.hostIterate, h]

/-- Settles O7: the record is in the state a fault leaves, and a recorded fault is answered unchanged. -/
theorem faultIsFinal : Obligations.FaultIsFinal := by
  refine ⟨fun s r hr => ⟨s.stop r, step_of_fault hr, State.stop_record s r, State.stop_self hr⟩,
    fun s f h => ?_⟩
  have hrec := step_fault_recorded h
  have hagain : step f.left = .fault f := by rw [step_of_fault hrec, Fault.stop_left_record hrec]
  have hhost := State.hostIterate_fault h
  exact ⟨hrec, hhost, hagain, by rw [hhost, State.hostIterate_fault hagain]⟩

/-! ## Illegal opcodes -/

theorem exec_illegal {op : Byte} (h : op ∈ illegalOpcodes) (x y : Byte) (s : State) :
    exec (decodeBytes op x y) s = .fault (s.stop (.decodeError op s.cpu.opPc)) := by
  simp only [illegalOpcodes, List.mem_cons, List.not_mem_nil, or_false] at h
  obtain rfl | rfl | rfl | rfl | rfl | rfl | rfl | rfl | rfl | rfl | rfl := h <;> rfl

theorem operandCount_illegal {op : Byte} (h : op ∈ illegalOpcodes) : operandCount op = 0 := by
  revert op
  decide

/-- Settles O51: of what an instruction can answer, only an illegal opcode's stop is a DecodeError. -/
theorem illegalOpcodesFault : Obligations.IllegalOpcodesFault := by
  refine ⟨fun op x y s pc => ⟨fun ⟨left, h⟩ => ?_, fun ⟨h, hpc⟩ => ?_⟩,
    fun op x y s h => exec_illegal h x y s, fun s op hf hop h => ?_⟩
  · obtain ha | ⟨op', hop', hdec, hstop⟩ | ⟨-, -, hstop⟩ := (exec_answers _ s).fault _ h
    · obtain ⟨bank, sel, -, -, hr⟩ := ha.refuses
      cases hr
    · obtain rfl := opcode_of_decodeBytes hdec
      cases hstop
      exact ⟨hop', rfl⟩
    · cases hstop
  · subst hpc
    exact ⟨_, exec_illegal h x y s⟩
  · have hcount := operandCount_illegal h
    have hfetch := State.fetchInstr_ok (s := s.setHalted false) (x := 0) (y := 0)
      ((State.memRead_setHalted ..).trans hop) (by omega) (by omega)
    rw [step, cpuStep_of_fetches hf, runInstruction, hfetch, andThen_ok, exec_illegal h, hcount,
      State.fetched, BitVec.add_zero]
    rfl

end Sys2Proof.Machine
end

section
/-! The end of an instruction: the cycles it takes, and the EI that was scheduled when it began
(60_exceptions.md R350, R357). -/

namespace Sys2Proof.Machine

/-- A count of cycles a step can return (60_exceptions.md R350). -/
abbrev IsStepCount (n : Nat) : Prop := 4 ≤ n ∧ n ≤ 24 ∧ n % 4 = 0

/-- An answer of an instruction that began in `s`: its cycles, and an EI scheduled before it still scheduled,
or in effect. -/
structure State.Ends (s : State) (x : Result) : Prop where
  cycles : ∀ t, x = .next t → IsStepCount t.cpu.cycles
  scheduled : ∀ t, x = .next t → s.cpu.imeScheduled = true → t.cpu.imeScheduled = true ∨ t.cpu.ime = true

section
variable {s : State}

theorem State.Ends.done {n : Nat} {t : State} (hn : IsStepCount n)
    (h : t.cpu.imeScheduled = s.cpu.imeScheduled) : s.Ends (done n t) := by
  refine ⟨fun u hu => ?_, fun u hu hs => ?_⟩ <;> cases hu
  · exact hn
  · exact .inl (h.trans hs)

theorem State.Ends.enabled {n : Nat} {t : State} (hn : IsStepCount n)
    (h : t.cpu.ime = true) : s.Ends (Machine.done n t) := by
  refine ⟨fun u hu => ?_, fun u hu _ => ?_⟩ <;> cases hu
  · exact hn
  · exact .inr h

theorem State.Ends.fault {f : Fault} : s.Ends (.fault f) :=
  ⟨fun _ h => (by cases h), fun _ h => (by cases h)⟩

theorem State.Ends.andThen {α : Type} {e : Except Fault α} {k : α → Result}
    (h : ∀ a, e = .ok a → s.Ends (k a)) : s.Ends (andThen e k) := by
  cases e with
  | error f => exact .fault
  | ok a => exact h a rfl

theorem State.Ends.readByte {a : Word} {k : Byte → Result} (h : ∀ v, s.Ends (k v)) :
    s.Ends (s.readByte a k) :=
  .andThen fun v _ => h v

theorem State.Ends.writeByte {a : Word} {v : Byte} {k : State → Result}
    (h : ∀ m, m.cpu.imeScheduled = s.cpu.imeScheduled → s.Ends (k m)) : s.Ends (s.writeByte a v k) :=
  .andThen fun m hm => h m (congrArg Cpu.imeScheduled (State.memWrite_storeFrame hm).cpu)

theorem State.Ends.push {v : Word} {k : State → Result}
    (h : ∀ m, m.cpu.imeScheduled = s.cpu.imeScheduled → s.Ends (k m)) :
    s.Ends (Machine.andThen (s.push16 v) k) :=
  .andThen fun m hm => h m ((congrArg Cpu.imeScheduled (State.push16_cpu hm) :))

theorem State.Ends.pop {k : Word × State → Result} (h : ∀ v, s.Ends (k (v, s.setSp (s.cpu.sp + 2)))) :
    s.Ends (Machine.andThen s.pop16 k) := by
  refine .andThen fun ⟨v, m⟩ hm => ?_
  obtain ⟨-, -, -, -, -, rfl⟩ := State.pop16_ok_iff.mp hm
  exact h v

end

/-! ## The shared operations that are more than one access -/

section
variable (s : State)

theorem ldAbsSp_ends (a : Word) : s.Ends (ldAbsSp a s) := by
  refine .andThen fun m hm => .done (by decide) ?_
  obtain ⟨m₁, h1, h2⟩ := State.memWrite16_ok_iff.mp hm
  rw [(State.memWrite_storeFrame h2).cpu, (State.memWrite_storeFrame h1).cpu]

theorem jumpIf_ends (cc : Cond) (a : Word) : s.Ends (jumpIf cc a s) := by
  unfold jumpIf
  split <;> exact .done (by decide) rfl

theorem jumpRelativeIf_ends (cc : Cond) (e : Byte) : s.Ends (jumpRelativeIf cc e s) := by
  unfold jumpRelativeIf
  split <;> exact .done (by decide) rfl

theorem callIf_ends (cc : Cond) (a : Word) : s.Ends (callIf cc a s) := by
  unfold callIf
  split
  · exact .push fun _ hm => .done (by decide) hm
  · exact .done (by decide) rfl

theorem return16_ends {n : Nat} (hn : IsStepCount n) : s.Ends (return16 n s) := by
  rw [return16_eq]
  exact .pop fun _ => .done hn rfl

theorem returnIf_ends (cc : Cond) : s.Ends (returnIf cc s) := by
  unfold returnIf
  split
  · exact return16_ends s (by decide)
  · exact .done (by decide) rfl

theorem returnAndEnable_ends : s.Ends (returnAndEnable s) := by
  rw [returnAndEnable_eq]
  exact .pop fun _ => .enabled (by decide) rfl

theorem popPair_ends (p : StackPair) : s.Ends (popPair p s) :=
  .pop fun _ => .done (by decide) (State.setStackPair_cpu_imeScheduled ..)

theorem enterHalt_ends : s.Ends (enterHalt s) := by
  unfold enterHalt
  split <;> exact .done (by decide) rfl

theorem enableInterrupts_ends : s.Ends (enableInterrupts s) := by
  unfold enableInterrupts
  split
  · refine ⟨fun t ht => ?_, fun t ht _ => ?_⟩ <;> cases ht
    · exact (show IsStepCount 4 by decide)
    · exact .inl rfl
  · exact .enabled (by decide) rfl

theorem stopOrSkip_ends : s.Ends (stopOrSkip s) := by
  unfold stopOrSkip
  split
  · exact .fault
  · exact .readByte fun _ => .done (by decide) rfl

theorem runCb_ends (cbop : Byte) : s.Ends (runCb cbop s) := by
  unfold runCb
  split
  · exact .done (by decide) (State.setReg_cpu_imeScheduled ..)
  · exact .readByte fun _ => .writeByte fun _ hm => .done (by decide) hm
  · exact .done (by decide) rfl
  · exact .readByte fun _ => .done (by decide) rfl
  · exact .done (by decide) (State.setReg_cpu_imeScheduled ..)
  · exact .readByte fun _ => .writeByte fun _ hm => .done (by decide) hm
  · exact .done (by decide) (State.setReg_cpu_imeScheduled ..)
  · exact .readByte fun _ => .writeByte fun _ hm => .done (by decide) hm

end

/-- Every instruction but DI ends so, by the accesses it makes; the last line has the register forms. -/
theorem exec_ends {i : Instr} (hdi : i ≠ .di) (s : State) : s.Ends (exec i s) := by
  cases i with
  | di => contradiction
  | ldBIndHl | ldCIndHl | ldDIndHl | ldEIndHl | ldHIndHl | ldLIndHl | ldAIndHl | ldAIndBc | ldAIndDe
  | ldAIndHli | ldAIndHld | ldhAIndC | ldhAIndA8 n | ldAIndA16 a
  | addAIndHl | adcAIndHl | subAIndHl | sbcAIndHl | andAIndHl | xorAIndHl | orAIndHl | cpAIndHl
  | bit0IndHl | bit1IndHl | bit2IndHl | bit3IndHl | bit4IndHl | bit5IndHl | bit6IndHl | bit7IndHl =>
    exact .readByte fun _ => .done (by decide) rfl
  | ldIndHlB | ldIndHlC | ldIndHlD | ldIndHlE | ldIndHlH | ldIndHlL | ldIndHlA | ldIndBcA | ldIndDeA
  | ldIndHliA | ldIndHldA | ldhIndCA | ldhIndA8A n | ldIndA16A a | ldIndHlN8 n =>
    exact .writeByte fun _ hm => .done (by decide) hm
  | incIndHl | decIndHl
  | cbRlcIndHl | cbRrcIndHl | cbRlIndHl | cbRrIndHl | cbSlaIndHl | cbSraIndHl | cbSwapIndHl | cbSrlIndHl
  | res0IndHl | res1IndHl | res2IndHl | res3IndHl | res4IndHl | res5IndHl | res6IndHl | res7IndHl
  | set0IndHl | set1IndHl | set2IndHl | set3IndHl | set4IndHl | set5IndHl | set6IndHl | set7IndHl =>
    exact .readByte fun _ => .writeByte fun _ hm => .done (by decide) hm
  | pushBc | pushDe | pushHl | pushAf | callA16 a
  | rst00 | rst08 | rst10 | rst18 | rst20 | rst28 | rst30 | rst38 =>
    exact .push fun _ hm => .done (by decide) hm
  | popBc | popDe | popHl | popAf => exact popPair_ends s _
  | ldIndA16Sp a => exact ldAbsSp_ends s a
  | jpNzA16 a | jpZA16 a | jpNcA16 a | jpCA16 a => exact jumpIf_ends s _ a
  | jrNzE8 e | jrZE8 e | jrNcE8 e | jrCE8 e => exact jumpRelativeIf_ends s _ e
  | callNzA16 a | callZA16 a | callNcA16 a | callCA16 a => exact callIf_ends s _ a
  | retNz | retZ | retNc | retC => exact returnIf_ends s _
  | ret => exact return16_ends s (by decide)
  | reti => exact returnAndEnable_ends s
  | halt => exact enterHalt_ends s
  | ei => exact enableInterrupts_ends s
  | stop => exact stopOrSkip_ends s
  | prefixCb cbop => exact runCb_ends s cbop
  | illegalD3 | illegalDB | illegalDD | illegalE3 | illegalE4 | illegalEB | illegalEC | illegalED
  | illegalF4 | illegalFC | illegalFD => exact .fault
  | incBc | incDe | incHl | incSp | decBc | decDe | decHl | decSp =>
    exact .done (by decide) (State.setPair_cpu_imeScheduled ..)
  | _ => exact .done (by decide) rfl

theorem exec_cycles {i : Instr} {s t : State} (h : exec i s = .next t) : IsStepCount t.cpu.cycles := by
  by_cases hdi : i = .di
  · subst hdi
    cases h
    exact (show IsStepCount 4 by decide)
  · exact (exec_ends hdi s).cycles t h

theorem State.finishEi_cycles (t : State) (scheduled : Bool) :
    (t.finishEi scheduled).cpu.cycles = t.cpu.cycles := by
  unfold State.finishEi
  split <;> rfl

/-- Settles O9, by what the step has run. -/
theorem stepCycles : Obligations.StepCycles := by
  intro s t h
  obtain ⟨-, u, hran, rfl⟩ := step_next h
  rw [u.devices_deviceFrame.cpu]
  show IsStepCount u.cpu.cycles
  cases hran with
  | dispatch => exact (show IsStepCount 20 by decide)
  | tick => exact (show IsStepCount 4 by decide)
  | instruction _ _ run =>
    rw [State.finishEi_cycles]
    exact exec_cycles run

/-! ## The EI delay -/

theorem State.finishEi_scheduled {t : State} (h : t.cpu.imeScheduled = true ∨ t.cpu.ime = true) :
    (t.finishEi true).cpu.imeScheduled = false ∧ (t.finishEi true).cpu.ime = true := by
  unfold State.finishEi
  cases hs : t.cpu.imeScheduled with
  | true => exact ⟨rfl, rfl⟩
  | false => exact ⟨hs, h.resolve_left (ne_true_of_eq_false hs)⟩

/-- At the end of the instruction after EI, IME is set, but for DI (60_exceptions.md R357, 45_system.md
R333). -/
theorem step_after_ei {t u : State} {op : Byte} (hf : t.fetches = true) (hs : t.cpu.imeScheduled = true)
    (hop : t.memRead t.cpu.pc = .ok op) (h : step t = .next u) :
    u.cpu.imeScheduled = false ∧ u.cpu.ime = decide (op ≠ 0xF3) := by
  obtain ⟨op', x, y, w, hop', hexec, rfl⟩ := step_next_of_fetches hf h
  cases hop.symm.trans hop'
  rw [State.devices_deviceFrame _ |>.cpu, hs]
  by_cases hdi : op = 0xF3
  · subst hdi
    cases hexec
    exact ⟨rfl, rfl⟩
  · rw [decide_eq_true hdi]
    have hne : decodeBytes op x y ≠ .di := fun hd =>
      hdi (opcode_of_decodeBytes (hd.trans (show Instr.di = decodeBytes 0xF3 0 0 from rfl)))
    exact State.finishEi_scheduled ((exec_ends hne _).scheduled w hexec hs)

theorem State.finishEi_pc (t : State) (scheduled : Bool) : (t.finishEi scheduled).cpu.pc = t.cpu.pc := by
  unfold State.finishEi
  split <;> rfl

theorem State.fetched_pc {s : State} (h : s.cpu.haltBug = false) : (s.fetched 0).cpu.pc = s.cpu.pc + 1 := by
  rw [State.fetched, State.afterOpcode, h]
  exact BitVec.add_zero _

/-- The state after a step that runs EI: it only schedules (60_exceptions.md R357). -/
theorem step_ei {s t : State} (hf : s.fetches = true) (hdelay : s.params.eiDelay = true)
    (hsched : s.cpu.imeScheduled = false) (hei : s.memRead s.cpu.pc = .ok 0xFB) (h : step s = .next t) :
    t.fault = none
      ∧ t.cpu = ((((s.setHalted false).fetched 0).setIme s.cpu.ime true).setCycles 4).cpu := by
  have hexec : exec (decodeBytes 0xFB 0 0) ((s.setHalted false).fetched 0)
      = .next ((((s.setHalted false).fetched 0).setIme s.cpu.ime true).setCycles 4) := if_pos hdelay
  have ht := step_of_opcode hf hei rfl hexec
  rw [hsched] at ht
  cases h.symm.trans ht
  have hd := ((((s.setHalted false).fetched 0).setIme s.cpu.ime true).setCycles 4).devices_deviceFrame
  exact ⟨hd.fault.trans (State.fetches_iff.mp hf).1, hd.cpu⟩

/-- Settles O10: EI only schedules, so that the next step fetches whatever is pending, and sets IME. -/
theorem eiDelay : Obligations.EiDelay := by
  intro s t hf hdelay hbug hime hsched hei h
  obtain ⟨hfault, hcpu⟩ := step_ei hf hdelay hsched hei h
  have htime : t.cpu.ime = false := (congrArg Cpu.ime hcpu).trans hime
  have htsched : t.cpu.imeScheduled = true := congrArg Cpu.imeScheduled hcpu
  have hthalt : t.cpu.halted = false := congrArg Cpu.halted hcpu
  have htbug : t.cpu.haltBug = false := congrArg Cpu.haltBug hcpu
  have htpc : t.cpu.pc = s.cpu.pc + 1 :=
    (congrArg Cpu.pc hcpu).trans (State.fetched_pc (s := s.setHalted false) hbug)
  have htf : t.fetches = true := State.fetches_iff.mpr
    ⟨hfault, by rw [htime, Bool.false_and], by rw [hthalt, Bool.false_and]⟩
  have hnext : ∀ op w, t.memRead t.cpu.pc = .ok op → operandCount op = 0 →
      exec (decodeBytes op 0 0) ((t.setHalted false).fetched 0) = .next w →
      w.cpu.pc = ((t.setHalted false).fetched 0).cpu.pc →
      ∃ u, step t = .next u ∧ u.cpu.ime = decide (op ≠ 0xF3) ∧ u.cpu.imeScheduled = false
        ∧ u.cpu.pc = s.cpu.pc + 2 := by
    intro op w hop hcount hexec hpc
    have hu := step_of_opcode htf hop hcount hexec
    obtain ⟨hs, hi⟩ := step_after_ei htf htsched hop hu
    refine ⟨_, hu, hi, hs, ?_⟩
    rw [State.devices_deviceFrame _ |>.cpu, State.finishEi_pc, hpc,
      State.fetched_pc (s := t.setHalted false) htbug, State.setHalted_cpu_pc, htpc, BitVec.add_assoc]
    rfl
  exact ⟨htime, htsched, htf, fun op u hop hu => step_after_ei htf htsched hop hu,
    fun hop => hnext _ _ hop rfl rfl rfl, fun hop => hnext _ _ hop rfl rfl rfl⟩

end Sys2Proof.Machine
end

section
/-! Taking an interrupt, and the instructions of the control family (60_exceptions.md R352, R361 to R366,
45_system.md R330 to R334). -/

namespace Sys2Proof.Machine

/-! ## A store and the CPU -/

theorem State.dmaCopy_anyCpu {base : Word} {n : Nat} {s m : State} (c : Cpu)
    (h : State.dmaCopy base n s = .ok m) :
    State.dmaCopy base n { s with cpu := c } = .ok { m with cpu := c } := by
  induction n generalizing s with
  | zero =>
    cases h
    rfl
  | succ n ih =>
    simp only [State.dmaCopy] at h ⊢
    split at h
    · next v hv =>
      rw [(State.memRead_cpu_ok c).mpr hv]
      exact ih h
    · cases h

/-- A store that goes through goes through whatever the CPU, also with another pc to record. -/
theorem State.memWrite_anyCpu {s m : State} {a : Word} {v : Byte} (c : Cpu) (h : s.memWrite a v = .ok m) :
    ({ s with cpu := c } : State).memWrite a v = .ok { m with cpu := c } := by
  have hok : ∀ {t : State}, Except.ok (ε := Fault) t = .ok m →
      Except.ok (ε := Fault) { t with cpu := c } = .ok { m with cpu := c } := fun ht => by
    cases ht
    rfl
  revert h
  unfold State.memWrite
  split
  · exact hok
  split
  · exact hok
  split
  · intro h
    obtain ⟨d, hd, rfl⟩ := State.cartRamWrite_ok h
    simp only [State.cartRamWrite, hd, State.orRaise]
  split
  · exact hok
  split
  · exact hok
  split
  · exact hok
  split
  · exact hok
  split
  · unfold State.ioWrite
    split
    · exact State.dmaCopy_anyCpu c
    · intro h
      cases h
      unfold State.ioStore
      split <;> rfl
  split
  · exact hok
  · exact hok

/-- What one read gives does not depend on the CPU. -/
theorem State.peek_cpu (s : State) (c : Cpu) (b : Word) : ({ s with cpu := c } : State).peek b = s.peek b := by
  have hsome : ∀ (t : State) v, t.peek b = some v ↔ t.memRead b = .ok v := fun t v => by
    rw [State.peek]
    cases t.memRead b <;> simp [Except.toOption]
  ext v
  rw [hsome, hsome, State.memRead_cpu_ok]

theorem State.peek_of_memRead {s : State} {b : Word} {v : Byte} (h : s.memRead b = .ok v) :
    s.peek b = some v := by
  rw [State.peek, h]
  rfl

/-! ## The dispatch -/

/-- The source a dispatch takes is the lowest of the five (60_exceptions.md R361). -/
theorem lowestPending_spec {p : Byte} (h : p &&& 0x1F ≠ 0) :
    ∃ i : Fin 5, lowestPending (p &&& 0x1F) = i.castLE (by decide) ∧ p.getLsbD i = true
      ∧ ∀ j : Fin 5, j < i → p.getLsbD j = false := by
  revert p
  decide

/-- Acknowledging a source reaches IF alone. -/
theorem State.acknowledge_sameAt (s : State) (i : Fin 8) {b : Word} (hb : b ≠ 0xFF0F) :
    s.SameAt (s.acknowledge i) b where
  opPc := rfl
  image := rfl
  overlay _ := rfl
  rom _ := rfl
  ram _ := rfl
  array := rfl
  io _ := by
    have hne : b.toNat ≠ 0xFF0F := fun h => hb (BitVec.eq_of_toNat_eq h)
    unfold State.ioRead
    split
    case h_8 => contradiction
    all_goals rfl
  ie _ := rfl

/-- In plain RAM a push changes the flat array alone. -/
theorem State.Pushed.plain {s m₁ m₂ : State} {v : Word} (h : s.Pushed v m₁ m₂)
    (hi : plainRam (s.cpu.sp - 1) = true) (lo : plainRam (s.cpu.sp - 2) = true) :
    m₂ = { s with mem := m₂.mem } := by
  obtain ⟨h₁, h₂⟩ := h
  rw [State.memWrite_plainRam _ hi] at h₁
  cases h₁
  rw [State.memWrite_plainRam _ lo] at h₂
  cases h₂
  rfl

theorem pending_ne_zero {s : State} (hime : s.cpu.ime = true) (h : s.io.ie &&& s.io.ifl &&& 0x1F ≠ 0) :
    (s.cpu.ime && s.pending != 0) = true := by
  rw [hime, Bool.true_and, bne_iff_ne]
  exact h

/-- The CPU after a dispatch of source `i` (60_exceptions.md R363). -/
def State.dispatchedCpu (s : State) (i : Fin 8) : Cpu :=
  { s.cpu with
    ime := false, imeScheduled := false, halted := false, haltBug := false
    sp := s.cpu.sp - 2, pc := vector i, opPc := s.returnAddress, cycles := 20 }

/-- A dispatch whose push is allowed: the two stores, from the machine with the source acknowledged. -/
theorem State.dispatch_pushed {s : State} (i : Fin 8)
    (h : s.storable16 (s.cpu.sp - 2) s.returnAddress = true) :
    ∃ m₁ m₂, (s.enterDispatch i).Pushed s.returnAddress m₁ m₂
      ∧ s.dispatch i = .next { m₂ with cpu := s.dispatchedCpu i } := by
  have hst : (s.enterDispatch i).storable16 ((s.enterDispatch i).cpu.sp - 2) s.returnAddress = true := h
  obtain ⟨m₁, m₂, hpush, hok⟩ := State.push16_pushed hst
  refine ⟨m₁, m₂, hpush, State.dispatch_next.mpr ⟨_, hok, ?_⟩⟩
  rw [State.setCycles, State.setPc, State.setSp, hpush.cpu]
  rfl

/-- A dispatch whose push is denied faults at the return address. -/
theorem State.dispatch_refused {s : State} (i : Fin 8)
    (h : s.storable16 (s.cpu.sp - 2) s.returnAddress = false) :
    ∃ f, s.dispatch i = .fault f ∧ (s.setOpPc s.returnAddress).Faults f := by
  have hst : (s.enterDispatch i).storable16 ((s.enterDispatch i).cpu.sp - 2) s.returnAddress = false := h
  obtain ⟨f, hf⟩ := State.push16_refused hst
  exact ⟨f, andThen_fault.mpr (.inl hf), (State.push16_error hf).of_cpu rfl rfl⟩

/-- What a dispatch leaves, whatever the CPU: the bytes outside the two slots and IF. -/
theorem State.Pushed.dispatch_peek_other {s m₁ m₂ : State} {i : Fin 8}
    (h : (s.enterDispatch i).Pushed s.returnAddress m₁ m₂) (c : Cpu) {b : Word} (hb : b ≠ 0xFF0F)
    (h1 : storeReach s.cart.mbc (s.cpu.sp - 1) b = false)
    (h2 : storeReach s.cart.mbc (s.cpu.sp - 2) b = false) :
    ({ m₂ with cpu := c } : State).peek b = s.peek b := by
  have hpush : m₂.memRead b = (s.enterDispatch i).memRead b := h.memRead_other h1 h2
  have hack : (s.acknowledge i).memRead b = s.memRead b := (s.acknowledge_sameAt i hb).memRead_eq
  have hcpu : (s.enterDispatch i).peek b = (s.acknowledge i).peek b := State.peek_cpu (s.acknowledge i) _ b
  rw [State.peek_cpu m₂ c b, State.peek, hpush, ← State.peek, hcpu, State.peek, hack, ← State.peek]

/-- What a dispatch with its stack in plain RAM leaves there, and that the devices keep the rest. -/
theorem State.Pushed.dispatch_plain {s m₁ m₂ : State} {i : Fin 8}
    (h : (s.enterDispatch i).Pushed s.returnAddress m₁ m₂) (c : Cpu)
    (h1 : plainRam (s.cpu.sp - 1) = true) (h2 : plainRam (s.cpu.sp - 2) = true) :
    ({ m₂ with cpu := c } : State).peek (s.cpu.sp - 1) = some (hiByte s.returnAddress)
      ∧ ({ m₂ with cpu := c } : State).peek (s.cpu.sp - 2) = some (loByte s.returnAddress)
      ∧ m₂.io = (s.acknowledge i).io ∧ m₂.timer = s.timer ∧ m₂.ppu = s.ppu ∧ m₂.cart = s.cart := by
  obtain ⟨hhi, hlo⟩ := h.memRead_slots h1 h2
  have hm : m₂ = { s.enterDispatch i with mem := m₂.mem } := h.plain h1 h2
  refine ⟨?_, ?_, ?_⟩
  · rw [State.peek_cpu m₂ c]
    exact State.peek_of_memRead hhi
  · rw [State.peek_cpu m₂ c]
    exact State.peek_of_memRead hlo
  · rw [hm]
    exact ⟨rfl, rfl, rfl, rfl⟩

/-- Settles O6: the stores of the push, seen from the machine with the source acknowledged. -/
theorem interruptDispatch : Obligations.InterruptDispatch := by
  intro s ret hi lo hf hime hp
  have hstep := cpuStep_of_dispatch hf (pending_ne_zero hime hp)
  refine ⟨fun hst => ?_, fun hst => ?_⟩
  · obtain ⟨f, hd, ha⟩ := s.dispatch_refused (lowestPending s.pending) hst
    obtain ⟨bank, sel, hm, hs, hr⟩ := ha.setOpPc
    exact ⟨f, bank, sel, by rw [step, hstep, hd, onNext], hm, hs, hr⟩
  · obtain ⟨i, hlow, hbit, hfirst⟩ := lowestPending_spec hp
    obtain ⟨m₁, m₂, hpush, hd⟩ := s.dispatch_pushed (i.castLE (by decide)) hst
    rw [State.pending, hlow, hd] at hstep
    exact ⟨i, _, { m₁ with cpu := s.cpu }, { m₂ with cpu := s.cpu }, _, hbit, hfirst, rfl,
      State.memWrite_anyCpu s.cpu hpush.high, State.memWrite_anyCpu s.cpu hpush.low, rfl,
      by rw [step, hstep]; rfl, fun b => hpush.dispatch_peek_other _, hpush.dispatch_plain _⟩

/-- Settles O48: each sets the control bits its rule names. -/
theorem controlInstructions : Obligations.ControlInstructions := by
  intro s
  refine ⟨rfl, rfl, rfl, rfl, rfl, rfl, fun h => ?_, fun h => ?_, fun hime hp => ?_, fun h => ?_⟩
  · exact if_pos h
  · exact if_neg (ne_true_of_eq_false h)
  · have hbug : (!s.cpu.ime && s.pending != 0) = true := by
      rw [hime, Bool.not_false, Bool.true_and, bne_iff_ne]
      exact hp
    exact if_pos hbug
  · have hhalt : ¬(!s.cpu.ime && s.pending != 0) = true := by
      rw [Bool.and_eq_true, Bool.not_eq_true', bne_iff_ne, State.pending]
      rintro ⟨hime, hp⟩
      exact h.elim (fun h => Bool.false_ne_true (hime.symm.trans h)) hp
    exact if_neg hhalt

end Sys2Proof.Machine
end

section
/-! A push, then a pop of what was pushed (40_loads.md R183, R185, 44_control.md R306, R308, R311). -/

namespace Sys2Proof.Machine

/-- A push in plain RAM goes through, and a pop with SP where the push left it gives the word back. -/
theorem State.push16_pop16 (s : State) (v : Word) (hi : plainRam (s.cpu.sp - 1) = true)
    (lo : plainRam (s.cpu.sp - 2) = true) :
    ∃ m : State, s.push16 v = .ok (m.setSp (s.cpu.sp - 2)) ∧ m.cpu = s.cpu ∧
      ∀ c : Cpu, c.sp = s.cpu.sp - 2 →
        ({ m with cpu := c } : State).pop16 = .ok (v, { m with cpu := { c with sp := s.cpu.sp } }) := by
  have hpush : s.Pushed v (s.setArray (s.cpu.sp - 1).toNat (hiByte v))
      ((s.setArray (s.cpu.sp - 1).toNat (hiByte v)).setArray (s.cpu.sp - 2).toNat (loByte v)) :=
    ⟨State.memWrite_plainRam _ hi, State.memWrite_plainRam _ lo⟩
  refine ⟨_, State.push16_ok_iff.mpr ⟨_, _, hpush.high, hpush.low, rfl⟩, hpush.cpu, fun c hsp => ?_⟩
  obtain ⟨hhi, hlo⟩ := hpush.memRead_slots hi lo
  have hup : c.sp + 1 = s.cpu.sp - 1 := by rw [hsp, sub_two_succ]
  have hback : c.sp + 2 = s.cpu.sp := by rw [hsp, BitVec.sub_add_cancel]
  refine State.pop16_ok_iff.mpr ⟨loByte v, hiByte v, ?_, ?_, (word16_hi_lo v).symm, ?_⟩
  · rw [State.memRead_cpu_ok]
    exact hsp ▸ hlo
  · rw [State.memRead_cpu_ok]
    exact hup ▸ hhi
  · show _ = State.setSp _ (c.sp + 2)
    rw [hback]
    rfl

/-- A call, then a return, with the stack in plain RAM. -/
theorem callTo_return (s : State) (n : Nat) (a : Word) (hi : plainRam (s.cpu.sp - 1) = true)
    (lo : plainRam (s.cpu.sp - 2) = true) :
    ∃ t u, callTo n a s = .next t ∧ t.cpu.pc = a ∧ exec .ret t = .next u
      ∧ u.cpu = { s.cpu with cycles := 16 } := by
  obtain ⟨m, hpush, hcpu, hpop⟩ := s.push16_pop16 s.cpu.pc hi lo
  exact ⟨_, _, callTo_next.mpr ⟨_, hpush, rfl⟩, rfl,
    return16_next.mpr ⟨_, _, hpop { m.cpu with sp := s.cpu.sp - 2, pc := a, cycles := n } rfl, rfl⟩,
    by rw [← hcpu]; rfl⟩

/-- Writing back the pair just read keeps the registers, where F has its low nibble zero. -/
theorem State.setStackPair_stackPair (s : State) (p : StackPair) (hf : p = .af → s.cpu.f &&& 0x0F = 0) :
    s.setStackPair p (s.stackPair p) = s := by
  have hmask : ∀ f : Byte, f &&& 0x0F = 0 → f &&& 0xF0 = f := by decide
  cases p with
  | af =>
    show { s with cpu := { s.cpu with a := hiByte (word16 s.cpu.a s.cpu.f)
                                      f := loByte (word16 s.cpu.a s.cpu.f) &&& 0xF0 } } = s
    rw [hiByte_word16, loByte_word16, hmask _ (hf rfl)]
  | bc =>
    show { s with cpu := { s.cpu with b := hiByte (word16 s.cpu.b s.cpu.c)
                                      c := loByte (word16 s.cpu.b s.cpu.c) } } = s
    rw [hiByte_word16, loByte_word16]
  | de =>
    show { s with cpu := { s.cpu with d := hiByte (word16 s.cpu.d s.cpu.e)
                                      e := loByte (word16 s.cpu.d s.cpu.e) } } = s
    rw [hiByte_word16, loByte_word16]
  | hl =>
    show { s with cpu := { s.cpu with h := hiByte (word16 s.cpu.h s.cpu.l)
                                      l := loByte (word16 s.cpu.h s.cpu.l) } } = s
    rw [hiByte_word16, loByte_word16]

/-- A push of a pair, then a pop of it, with the stack in plain RAM: only the memory and the cycles differ. -/
theorem pushPair_popPair (s : State) (p : StackPair) (hf : p = .af → s.cpu.f &&& 0x0F = 0)
    (hi : plainRam (s.cpu.sp - 1) = true) (lo : plainRam (s.cpu.sp - 2) = true) :
    ∃ t u, exec (.pushPair p) s = .next t ∧ exec (.popPair p) t = .next u
      ∧ u.cpu = { s.cpu with cycles := 12 } := by
  obtain ⟨m, hpush, hcpu, hpop⟩ := s.push16_pop16 (s.stackPair p) hi lo
  have hsame : ({ m with cpu := { s.cpu with cycles := 16 } } : State).stackPair p = s.stackPair p := by
    cases p <;> rfl
  have hkeep := State.setStackPair_stackPair { m with cpu := { s.cpu with cycles := 16 } } p hf
  rw [hsame] at hkeep
  rw [exec_pushPair]
  refine ⟨_, _, pushPair_next.mpr ⟨_, hpush, rfl⟩,
    (exec_popPair p _).trans
      (popPair_next.mpr ⟨_, _, hpop { m.cpu with sp := s.cpu.sp - 2, cycles := 16 } rfl, rfl⟩), ?_⟩
  rw [hcpu]
  exact congrArg (fun u : State => { u.cpu with cycles := 12 }) hkeep

/-- Settles O31: a push in plain RAM is read back by the pop. -/
theorem stackRoundTrip : Obligations.StackRoundTrip := by
  intro s hi lo
  refine ⟨fun p hf => ?_, fun a => callTo_return s 24 a hi lo, fun n => ?_⟩
  · obtain ⟨t, u, hpush, hpop, hcpu⟩ := pushPair_popPair s p hf hi lo
    exact ⟨t, u, hpush, hpop, by cases p <;> simp only [State.stackPair, State.pair, hcpu], hcpu⟩
  · rw [exec_restart]
    exact callTo_return s 16 _ hi lo

end Sys2Proof.Machine
end

section
/-! DAA after an addition or a subtraction of BCD bytes (41_alu8.md R230, from R201 and R206 to R217). -/

namespace Sys2Proof.Machine

/-- The byte is in BCD: the decimal digits `p` and `q` in its nibbles. -/
structure HasDigits (b : Byte) (p q : Nat) : Prop where
  byte : b.toNat = 16 * p + q
  tens : p ≤ 9
  ones : q ≤ 9

theorem HasDigits.of_nibbles {b : Byte} (h : b.toNat / 16 ≤ 9 ∧ b.toNat % 16 ≤ 9) :
    HasDigits b (b.toNat / 16) (b.toNat % 16) :=
  ⟨(Nat.div_add_mod ..).symm, h.1, h.2⟩

theorem HasDigits.nibbles {b : Byte} {p q : Nat} (h : HasDigits b p q) :
    b.toNat / 16 = p ∧ b.toNat % 16 = q := by
  obtain ⟨hb, hp, hq⟩ := h
  omega

/-- The algorithm of R230 after an addition, on digits: the sum's digits mod 100. -/
theorem daa_sum_digits {p q r t c : Nat} (hp : p ≤ 9) (hq : q ≤ 9) (hr : r ≤ 9) (ht : t ≤ 9) (hc : c < 2) :
    ((16 * p + q + (16 * r + t) + c) % 256
        + (if 16 * p + q + (16 * r + t) + c > 0xFF ∨ (16 * p + q + (16 * r + t) + c) % 256 > 0x99
            then 0x60 else 0)
        + (if q + t + c > 0x0F ∨ (16 * p + q + (16 * r + t) + c) % 256 % 16 > 9 then 0x06 else 0)) % 256
      = 16 * ((p + r + (q + t + c) / 10) % 10) + (q + t + c) % 10 := by
  have hsum : 16 * p + q + (16 * r + t) + c = 16 * (p + r) + (q + t + c) := by omega
  rw [hsum]
  generalize hlo : q + t + c = lo
  generalize hhi : p + r = hi
  obtain hlow | hlow := Nat.lt_or_ge 9 lo
  · obtain hhigh | hhigh := Nat.lt_or_ge 8 hi
    · rw [if_pos (by omega), if_pos (by omega)]
      omega
    · rw [if_neg (by omega), if_pos (by omega)]
      omega
  · obtain hhigh | hhigh := Nat.lt_or_ge 9 hi
    · rw [if_pos (by omega), if_neg (by omega)]
      omega
    · rw [if_neg (by omega), if_neg (by omega)]
      omega

/-- The algorithm of R230 after a subtraction, on digits: the difference's digits mod 100. -/
theorem daa_difference_digits {p q r t c : Nat} (hp : p ≤ 9) (hq : q ≤ 9) (hr : r ≤ 9) (ht : t ≤ 9)
    (hc : c < 2) :
    (((16 * p + q : Nat) - (16 * r + t : Nat) - c : Int) % 256
        - (if 16 * p + q < 16 * r + t + c then 0x60 else 0) - (if q < t + c then 0x06 else 0)) % 256
      = 16 * (((p : Int) - r - if q < t + c then 1 else 0) % 10) + ((q : Int) - t - c) % 10 := by
  split <;> split <;> omega

/-- DAA of the sum of two BCD bytes: its digits, and the decimal carry. -/
theorem daa_add8 {a b : Byte} {p q r t : Nat} (c : Bool) (ha : HasDigits a p q) (hb : HasDigits b r t) :
    HasDigits (daa (add8 a b c).value false (add8 a b c).half (add8 a b c).carry).1
        ((p + r + (q + t + bit c) / 10) % 10) ((q + t + bit c) % 10)
      ∧ (daa (add8 a b c).value false (add8 a b c).half (add8 a b c).carry).2
        = decide (10 * (p + r) + (q + t + bit c) ≥ 100) := by
  have hc := bit_lt_two c
  obtain ⟨hvalue, hout⟩ := daa_add (add8 a b c).value (add8 a b c).half (add8 a b c).carry
  obtain ⟨ha', hp, hq⟩ := ha
  obtain ⟨hb', hr, ht⟩ := hb
  have hhalf : (add8 a b c).half = true ↔ q + t + bit c > 0x0F := by
    rw [add8, decide_eq_true_iff]
    omega
  have hcarry : (add8 a b c).carry = true ↔ 16 * p + q + (16 * r + t) + bit c > 0xFF := by
    rw [add8, decide_eq_true_iff, ha', hb']
  simp only [add8_toNat, hhalf, hcarry, ha', hb', daa_sum_digits hp hq hr ht hc] at hvalue hout
  refine ⟨⟨hvalue, by omega, by omega⟩, ?_⟩
  rw [hout, decide_eq_decide]
  omega

/-- DAA of the difference of two BCD bytes: its digits, and the decimal borrow. -/
theorem daa_sub8 {a b : Byte} {p q r t : Nat} (c : Bool) (ha : HasDigits a p q) (hb : HasDigits b r t) :
    HasDigits (daa (sub8 a b c).value true (sub8 a b c).half (sub8 a b c).carry).1
        (((p : Int) - r - if q < t + bit c then 1 else 0) % 10).toNat (((q : Int) - t - bit c) % 10).toNat
      ∧ (daa (sub8 a b c).value true (sub8 a b c).half (sub8 a b c).carry).2
        = decide (10 * p + q < 10 * r + t + bit c) := by
  have hc := bit_lt_two c
  have hvalue := daa_sub (sub8 a b c).value (sub8 a b c).half (sub8 a b c).carry
  obtain ⟨ha', hp, hq⟩ := ha
  obtain ⟨hb', hr, ht⟩ := hb
  have hhalf : (sub8 a b c).half = true ↔ q < t + bit c := by
    rw [sub8, decide_eq_true_iff]
    omega
  have hcarry : (sub8 a b c).carry = true ↔ 16 * p + q < 16 * r + t + bit c := by
    rw [sub8, decide_eq_true_iff, ha', hb']
  simp only [sub8_toNat, hhalf, hcarry, ha', hb', daa_difference_digits hp hq hr ht hc] at hvalue
  refine ⟨⟨by omega, by omega, by omega⟩, ?_⟩
  show (sub8 a b c).carry = _
  rw [Bool.eq_iff_iff, hcarry, decide_eq_true_iff]
  omega

theorem exec_daa (s : State) : ∃ u, exec .daa s = .next u
    ∧ u.cpu.a = (daa s.cpu.a s.flagN s.flagH s.flagC).1 ∧ u.flagC = (daa s.cpu.a s.flagN s.flagH s.flagC).2 := by
  have hdaa : exec .daa s = adjustDecimal s := rfl
  exact ⟨_, hdaa, rfl, by rw [State.setCycles_flagC, State.setFlags_flagC]⟩

/-- DAA right after an operation that wrote its result and flags to A and F. -/
theorem exec_daa_setArith (s : State) (n : Bool) (r : Arith 8) (k : Nat) :
    ∃ u, exec .daa ((s.setArith n r).setCycles k) = .next u ∧ u.cpu.a = (daa r.value n r.half r.carry).1
      ∧ u.flagC = (daa r.value n r.half r.carry).2 := by
  have hflags : daa r.value (s.setArith n r).flagN (s.setArith n r).flagH (s.setArith n r).flagC
      = daa r.value n r.half r.carry := by
    rw [State.setArith, State.setFlags_flagN, State.setFlags_flagH, State.setFlags_flagC]
  obtain ⟨u, hu, ha, hc⟩ := exec_daa ((s.setArith n r).setCycles k)
  exact ⟨u, hu, ha.trans (congrArg Prod.fst hflags), hc.trans (congrArg Prod.snd hflags)⟩

/-- An addition of BCD bytes, then DAA: R230's algorithm on the sum. -/
theorem exec_aluImm_daa_add {s : State} {op : AluOp} {c : Bool} {v : Byte}
    (hop : s.alu op v = s.setArith false (add8 s.cpu.a v c))
    (ha : s.cpu.a.toNat / 16 ≤ 9 ∧ s.cpu.a.toNat % 16 ≤ 9) (hv : v.toNat / 16 ≤ 9 ∧ v.toNat % 16 ≤ 9) :
    ∃ t u, exec (.aluImm v op) s = .next t ∧ exec .daa t = .next u
      ∧ (u.cpu.a.toNat / 16 ≤ 9 ∧ u.cpu.a.toNat % 16 ≤ 9)
      ∧ u.cpu.a.toNat / 16 * 10 + u.cpu.a.toNat % 16
        = (s.cpu.a.toNat / 16 * 10 + s.cpu.a.toNat % 16 + (v.toNat / 16 * 10 + v.toNat % 16) + bit c) % 100
      ∧ u.flagC = decide
        (s.cpu.a.toNat / 16 * 10 + s.cpu.a.toNat % 16 + (v.toNat / 16 * 10 + v.toNat % 16) + bit c ≥ 100) := by
  obtain ⟨u, hu, hua, huc⟩ := exec_daa_setArith s false (add8 s.cpu.a v c) 8
  obtain ⟨hdigits, hcarry⟩ := daa_add8 c (.of_nibbles ha) (.of_nibbles hv)
  rw [← hua] at hdigits
  rw [← huc] at hcarry
  obtain ⟨htens, hones⟩ := hdigits.nibbles
  refine ⟨_, u, exec_aluImm op v s, hop ▸ hu, ?_, ?_, ?_⟩
  · exact htens ▸ hones ▸ ⟨hdigits.tens, hdigits.ones⟩
  · rw [htens, hones]
    omega
  · rw [hcarry, decide_eq_decide]
    omega

/-- A subtraction of BCD bytes, then DAA: R230's algorithm on the difference. -/
theorem exec_aluImm_daa_sub {s : State} {op : AluOp} {c : Bool} {v : Byte}
    (hop : s.alu op v = s.setArith true (sub8 s.cpu.a v c))
    (ha : s.cpu.a.toNat / 16 ≤ 9 ∧ s.cpu.a.toNat % 16 ≤ 9) (hv : v.toNat / 16 ≤ 9 ∧ v.toNat % 16 ≤ 9) :
    ∃ t u, exec (.aluImm v op) s = .next t ∧ exec .daa t = .next u
      ∧ (u.cpu.a.toNat / 16 ≤ 9 ∧ u.cpu.a.toNat % 16 ≤ 9)
      ∧ ((u.cpu.a.toNat / 16 * 10 + u.cpu.a.toNat % 16 : Nat) : Int)
        = (((s.cpu.a.toNat / 16 * 10 + s.cpu.a.toNat % 16 : Nat) : Int)
          - (v.toNat / 16 * 10 + v.toNat % 16 : Nat) - bit c) % 100
      ∧ u.flagC = decide
        (s.cpu.a.toNat / 16 * 10 + s.cpu.a.toNat % 16 < v.toNat / 16 * 10 + v.toNat % 16 + bit c) := by
  obtain ⟨u, hu, hua, huc⟩ := exec_daa_setArith s true (sub8 s.cpu.a v c) 8
  obtain ⟨hdigits, hcarry⟩ := daa_sub8 c (.of_nibbles ha) (.of_nibbles hv)
  rw [← hua] at hdigits
  rw [← huc] at hcarry
  have hc := bit_lt_two c
  obtain ⟨htens, hones⟩ := hdigits.nibbles
  refine ⟨_, u, exec_aluImm op v s, hop ▸ hu, ?_, ?_, ?_⟩
  · exact htens ▸ hones ▸ ⟨hdigits.tens, hdigits.ones⟩
  · rw [htens, hones]
    split <;> omega
  · rw [hcarry, decide_eq_decide]
    omega

/-- Settles O37: on digits, R230 corrects the binary sum or difference to the decimal one. -/
theorem decimalArithmetic : Obligations.DecimalArithmetic := by
  intro s v op bcd isBcd C ha hv
  refine ⟨?_, ?_⟩
  · rintro (rfl | rfl)
    · exact exec_aluImm_daa_add (c := false) rfl ha hv
    · have hC : C = bit s.flagC := by simp [C, bit]
      rw [hC]
      exact exec_aluImm_daa_add rfl ha hv
  · rintro (rfl | rfl)
    · exact exec_aluImm_daa_sub (c := false) rfl ha hv
    · have hC : C = bit s.flagC := by simp [C, bit]
      rw [hC]
      exact exec_aluImm_daa_sub rfl ha hv

end Sys2Proof.Machine
end

section
/-! Stores and reads region by region: the flat array, the I/O page and the OAM DMA (20_memory.md R55 to R68,
10_state.md R33 to R45). -/

namespace Sys2Proof.Machine

/-! ## Reads and stores by region -/

/-- The addresses whose byte is stored in the flat array and read from it: VRAM, WRAM and its echo, OAM and
HRAM (20_memory.md R59, R60, R61, R67). -/
def InArray (a : Word) : Prop :=
  (0x8000 ≤ a.toNat ∧ a.toNat ≤ 0x9FFF) ∨ (0xC000 ≤ a.toNat ∧ a.toNat ≤ 0xFE9F)
    ∨ (0xFF80 ≤ a.toNat ∧ a.toNat ≤ 0xFFFE)

/-- Above its 256 bytes the boot overlay hides nothing. -/
theorem State.not_overlay (s : State) {a : Word} (h : 0x00FF < a.toNat) :
    ¬(s.io.bootEnabled && decide (a.toNat ≤ 0x00FF)) = true := by
  rw [decide_eq_false (by omega), Bool.and_false]
  exact Bool.false_ne_true

theorem State.memRead_array (s : State) {a : Word} (h : InArray a) :
    s.memRead a = .ok (s.array (unecho a)) := by
  rw [State.memRead, if_neg (s.not_overlay (by rcases h with h | h | h <;> omega))]
  rcases h with h | h | h
  · rw [if_neg (by omega), if_pos h.2, unecho_of_outside (by omega)]
  · rw [if_neg (by omega), if_neg (by omega), if_neg (by omega)]
    split
    · rw [unecho_of_outside (by omega)]
    split
    · rw [unecho_of_echo (by omega)]
    · rw [if_pos (by omega), unecho_of_outside (by omega)]
  · rw [if_neg (by omega), if_neg (by omega), if_neg (by omega), if_neg (by omega), if_neg (by omega),
      if_neg (by omega), if_neg (by omega), if_pos h.2, unecho_of_outside (by omega)]

theorem State.memWrite_array (s : State) {a : Word} (v : Byte) (h : InArray a) :
    s.memWrite a v = .ok (s.setArray (unecho a) v) := by
  rw [State.memWrite]
  rcases h with h | h | h
  · rw [if_neg (by omega), if_pos h.2, unecho_of_outside (by omega)]
  · rw [if_neg (by omega), if_neg (by omega), if_neg (by omega)]
    split
    · rw [unecho_of_outside (by omega)]
    split
    · rw [unecho_of_echo (by omega)]
    · rw [if_pos (by omega), unecho_of_outside (by omega)]
  · rw [if_neg (by omega), if_neg (by omega), if_neg (by omega), if_neg (by omega), if_neg (by omega),
      if_neg (by omega), if_neg (by omega), if_neg (by omega), if_pos h.2, unecho_of_outside (by omega)]

theorem State.memWrite_unusable (s : State) {a : Word} (v : Byte) (h1 : 0xFEA0 ≤ a.toNat)
    (h2 : a.toNat ≤ 0xFEFF) : s.memWrite a v = .ok s := by
  rw [State.memWrite, if_neg (by omega), if_neg (by omega), if_neg (by omega), if_neg (by omega),
    if_neg (by omega), if_neg (by omega), if_pos h2]

theorem State.memRead_io (s : State) {a : Word} (h1 : 0xFF00 ≤ a.toNat) (h2 : a.toNat ≤ 0xFF7F) :
    s.memRead a = .ok (s.ioRead a.toNat) := by
  rw [State.memRead, if_neg (s.not_overlay (by omega)), if_neg (by omega), if_neg (by omega),
    if_neg (by omega), if_neg (by omega), if_neg (by omega), if_neg (by omega), if_pos h2]

theorem State.memWrite_io (s : State) {a : Word} (v : Byte) (h1 : 0xFF00 ≤ a.toNat) (h2 : a.toNat ≤ 0xFF7F) :
    s.memWrite a v = s.ioWrite a.toNat v := by
  rw [State.memWrite, if_neg (by omega), if_neg (by omega), if_neg (by omega), if_neg (by omega),
    if_neg (by omega), if_neg (by omega), if_neg (by omega), if_pos h2]

theorem State.memRead_ie (s : State) : s.memRead 0xFFFF = .ok s.io.ie := by
  rw [State.memRead, if_neg (s.not_overlay (by decide))]
  rfl

theorem State.memWrite_ie (s : State) (v : Byte) :
    s.memWrite 0xFFFF v = .ok { s with io := { s.io with ie := v } } := rfl

/-! ## What a store leaves -/

/-- Below the I/O page a store changes the cartridge or the flat array. -/
theorem State.Stored.devices {s m : State} {a : Word} {v : Byte} (h : s.Stored a v m)
    (ha : a.toNat < 0xFF00) : m.io = s.io ∧ m.timer = s.timer ∧ m.ppu = s.ppu := by
  cases h with
  | dma h => omega
  | io h => omega
  | ie h => omega
  | _ => exact ⟨rfl, rfl, rfl⟩

/-- Settles O16, by the regions of the address stored at. -/
theorem storeFrame : Obligations.StoreFrame := by
  intro s m a v h
  have hf := State.memWrite_storeFrame h
  exact ⟨fun b hb => State.memRead_memWrite_other h hb, hf.cpu, hf.params, hf.fault, hf.joypad, hf.rom,
    hf.romBankCount, hf.acc, hf.coincidence, hf.frameReady, hf.frame,
    fun ha => State.memWrite_mbc_same h (by omega), (State.memWrite_stored h).devices⟩

/-! ## The flat array -/

/-- The same byte of the flat array under another address reads back what is stored. -/
theorem State.memRead_setArray_unecho (s : State) {a b : Word} (v : Byte) (hb : InArray b)
    (hab : unecho b = unecho a) : (s.setArray (unecho a) v).memRead b = .ok v := by
  rw [State.memRead_array _ hb, hab, State.array_setArray_same]

/-- Settles O17: the echo is WRAM under another address. -/
theorem ramReadsBack : Obligations.RamReadsBack := by
  intro s a v
  have hup : a.toNat ≤ 0xDDFF → (a + 0x2000).toNat = a.toNat + 0x2000 := fun h => by
    rw [BitVec.toNat_add]
    exact Nat.mod_eq_of_lt (by simp; omega)
  have hdown : 0xE000 ≤ a.toNat → (a - 0x2000).toNat = a.toNat - 0x2000 := fun h => by
    rw [BitVec.toNat_sub_of_le (by rw [BitVec.le_def]; simp; omega)]
    rfl
  refine ⟨fun h => ⟨_, s.memWrite_array v h, rfl, s.memRead_setArray_unecho v h rfl, fun h1 h2 => ?_,
    fun h1 h2 => ?_⟩, fun h1 h2 => ?_, fun h1 h2 => s.memWrite_unusable v h1 h2⟩
  · have hb := hup h2
    refine s.memRead_setArray_unecho v (.inr (.inl (by omega))) ?_
    rw [unecho_of_echo (by omega), unecho_of_outside (by omega), hb, Nat.add_sub_cancel]
  · have hb := hdown h1
    refine s.memRead_setArray_unecho v (.inr (.inl (by omega))) ?_
    rw [unecho_of_outside (by omega), unecho_of_echo (by omega), hb]
  · have hb := hdown h1
    rw [s.memRead_array (.inr (.inl (by omega))), s.memRead_array (.inr (.inl (by omega))),
      unecho_of_echo (by omega), unecho_of_outside (by omega), hb]

/-! ## The I/O page -/

/-- What the I/O register at `n` reads once `v` has been stored there (10_state.md R35). -/
def State.ioReadBack (s : State) (n : Nat) (v : Byte) : Byte :=
  if n = 0xFF00 then 0xC0 ||| (v &&& 0x30) ||| (s.io.joypad.keys (v.extractLsb' 4 2)).setWidth 8
  else if n = 0xFF04 then 0x00
  else if n = 0xFF07 then v ||| 0xF8
  else if n = 0xFF0F then v ||| 0xE0
  else if n = 0xFF41 then
    0x80 ||| (v &&& 0x78) ||| (if s.ppu.coincidence then 0x04 else 0x00)
      ||| (if s.ppu.lcdOn then s.ppu.mode.number.setWidth 8 else 0)
  else if n = 0xFF44 then s.ppu.ly
  else v

/-- P1 in one sum: bits 7 and 6 set, the select bits stored, the keys at them (10_state.md R36). -/
theorem p1_eq : ∀ (v : Byte) (k : BitVec 4),
    (0b11#2 ++ v.extractLsb' 4 2 ++ k : Byte) = 0xC0 ||| (v &&& 0x30) ||| k.setWidth 8 := by
  decide

theorem Ppu.writeLcdc_lcdc (p : Ppu) (v : Byte) : (p.writeLcdc v).lcdc = v := by
  unfold Ppu.writeLcdc
  split
  · rfl
  split <;> rfl

/-- Outside the registers of R35 the I/O page is the flat array. -/
theorem State.ioRead_setArray_same (s : State) {n : Nat} (v : Byte)
    (hn : ∀ t : State, t.ioRead n = t.array n) : (s.setArray n v).ioRead n = v := by
  rw [hn, State.array_setArray_same]

theorem State.ioRead_ioStore (s : State) {n : Nat} (v : Byte) (hn : n ≠ 0xFF46) :
    (s.ioStore n v).ioRead n = s.ioReadBack n v := by
  unfold State.ioStore
  split
  case h_1 => exact p1_eq v _
  case h_4 => exact (by decide : hiByte 0 = 0x00)
  case h_9 => exact s.ppu.writeLcdc_lcdc v
  case h_10 =>
    show 0x80 ||| (v &&& 0x78 &&& 0x78) ||| _ ||| _ = _
    rw [BitVec.and_assoc, BitVec.and_self]
    rfl
  case h_21 =>
    have hread : ∀ t : State, t.ioRead n = t.array n := fun t => by
      unfold State.ioRead
      split
      case h_22 => rfl
      all_goals contradiction
    rw [s.ioRead_setArray_same v hread]
    unfold State.ioReadBack
    repeat rw [if_neg (by assumption)]
  all_goals rfl

theorem PpuMode.number_setWidth (m : PpuMode) : m.number.setWidth 8 = (match m with
    | .hBlank => 0
    | .vBlank => 1
    | .oamScan => 2
    | .pixelTransfer => 3 : Byte) := by
  cases m <;> rfl

/-- Settles O18: in the I/O page by the register stored at, and IE. -/
theorem ioReadsBack : Obligations.IoReadsBack := by
  intro s a v h1 h2 hdma
  obtain h2 | rfl := h2
  · have hn : a.toNat ≠ 0xFF46 := fun h => hdma (BitVec.eq_of_toNat_eq h)
    refine ⟨s.ioStore a.toNat v, by rw [s.memWrite_io v h1 h2, State.ioWrite, if_neg hn], ?_, ?_⟩
    · rw [State.memRead_io _ h1 h2, s.ioRead_ioStore v hn, State.ioReadBack, PpuMode.number_setWidth]
      simp only [← BitVec.toNat_inj]
      rfl
    · rintro rfl
      rfl
  · exact ⟨_, s.memWrite_ie v, State.memRead_ie _, fun h => absurd h (by decide)⟩

/-! ## OAM DMA -/

/-- The addresses of a DMA copy's source (20_memory.md R64). -/
theorem dmaSource_toNat (v : Byte) {k : Nat} (hk : k < 160) :
    (word16 v 0 + BitVec.ofNat 16 k).toNat = v.toNat * 256 + k := by
  have hv := v.isLt
  rw [BitVec.toNat_add, word16_toNat, BitVec.toNat_ofNat]
  show (v.toNat * 256 + 0 + k % 65536) % 65536 = v.toNat * 256 + k
  omega

theorem oamAddress_toNat {k : Nat} (hk : k < 160) : (0xFE00 + BitVec.ofNat 16 k).toNat = 0xFE00 + k := by
  rw [BitVec.toNat_add, BitVec.toNat_ofNat]
  show (0xFE00 + k % 65536) % 65536 = 0xFE00 + k
  omega

/-- A byte written into OAM is no later byte of the source, also when the source is OAM. -/
theorem State.memRead_dmaSource (s : State) (v w : Byte) {j k : Nat} (hj : j < 160) (hk : k < 160)
    (hjk : k ≠ j) :
    (s.setArray (0xFE00 + j) w).memRead (word16 v 0 + BitVec.ofNat 16 k)
      = s.memRead (word16 v 0 + BitVec.ofNat 16 k) := by
  have hsrc := dmaSource_toNat v hk
  refine (s.setArray_sameAt w ?_).memRead_eq
  unfold unecho
  split <;> omega

/-- The last `n` bytes of the copy: each is the source's as it stood, and the bytes of OAM before them stay. -/
theorem State.dmaCopy_oam {v : Byte} {n : Nat} {s t : State} (hn : n ≤ 160)
    (h : State.dmaCopy (word16 v 0) n s = .ok t) :
    (∀ k, 160 - n ≤ k → k < 160 →
      s.memRead (word16 v 0 + BitVec.ofNat 16 k) = .ok (t.array (0xFE00 + k)))
      ∧ ∀ k, k < 160 - n → t.array (0xFE00 + k) = s.array (0xFE00 + k) := by
  induction n generalizing s with
  | zero =>
    cases h
    exact ⟨fun k h1 h2 => by omega, fun _ _ => rfl⟩
  | succ n ih =>
    simp only [State.dmaCopy] at h
    split at h
    · next w hw =>
      obtain ⟨hcopied, hkept⟩ := ih (by omega) h
      refine ⟨fun k h1 h2 => ?_, fun k hk => ?_⟩
      · by_cases hk : k = 160 - (n + 1)
        · rw [hk, hw, hkept _ (by omega), State.array_setArray_same]
        · rw [← hcopied k (by omega) h2, s.memRead_dmaSource v w (by omega) h2 hk]
      · rw [hkept k (by omega), State.array_setArray_other s w (by omega)]
    · cases h

/-- Settles O19, by the copy's induction. -/
theorem oamDmaCopies : Obligations.OamDmaCopies := by
  intro s v hst
  obtain ⟨m, hm⟩ := State.memWrite_ok hst
  have hcopy : State.dmaCopy (word16 v 0) 160 { s with io := { s.io with dma := v } } = .ok m := hm
  have hmem := State.dmaCopy_array hcopy
  refine ⟨m, hm, hmem, ?_, fun k hk => ?_⟩
  · rw [m.memRead_io (by decide) (by decide), hmem]
    rfl
  · have ha := oamAddress_toNat hk
    rw [(State.dmaCopy_oam (Nat.le_refl 160) hcopy).1 k (by omega) hk,
      m.memRead_array (.inr (.inl (by omega))), unecho_of_outside (by omega), ha]

end Sys2Proof.Machine
end

section
/-! The bank controllers: their registers, the ROM windows and external RAM (20_memory.md section 5). -/

namespace Sys2Proof.Machine

/-! ## The values stores leave in bank registers -/

theorem ramEnableOf_eq : ∀ v : Byte, ramEnableOf v = decide (v.toNat % 16 = 10) := by
  decide

theorem remapZeroBank_toNat {w : Nat} (b : BitVec (w + 1)) :
    (remapZeroBank b).toNat = if b.toNat = 0 then 1 else b.toNat := by
  have hzero : b = 0#(w + 1) ↔ b.toNat = 0 := by rw [← BitVec.toNat_inj, BitVec.toNat_ofNat, Nat.zero_mod]
  unfold remapZeroBank
  by_cases h : b = 0#(w + 1)
  · rw [if_pos h, if_pos (hzero.mp h), BitVec.toNat_ofNat, Nat.mod_eq_of_lt (Nat.one_lt_two_pow (by omega))]
  · rw [if_neg h, if_neg (mt hzero.mpr h)]

theorem bit0_eq : ∀ v : Byte, v.getLsbD 0 = decide (v.toNat % 2 = 1) := by
  decide

/-- MBC5's bank register with its low eight bits stored (20_memory.md R116). -/
theorem mbc5_lowBank (b : BitVec 9) (v : Byte) :
    (b.extractLsb' 8 1 ++ v).toNat = b.toNat / 256 * 256 + v.toNat := by
  have hb := b.isLt
  have hv := v.isLt
  rw [BitVec.toNat_append, ← Nat.shiftLeft_add_eq_or_of_lt hv, BitVec.extractLsb'_toNat, Nat.shiftLeft_eq,
    Nat.shiftRight_eq_div_pow]
  omega

/-- MBC5's bank register with its ninth bit stored (20_memory.md R116). -/
theorem mbc5_highBank (b : BitVec 9) (v : Byte) :
    (v.extractLsb' 0 1 ++ b.extractLsb' 0 8).toNat = v.toNat % 2 * 256 + b.toNat % 256 := by
  rw [BitVec.toNat_append, ← Nat.shiftLeft_add_eq_or_of_lt (BitVec.isLt _), BitVec.extractLsb'_toNat,
    BitVec.extractLsb'_toNat, Nat.shiftLeft_eq, Nat.shiftRight_zero, Nat.shiftRight_zero]

theorem State.memWrite_rom (s : State) {a : Word} (v : Byte) (h : a.toNat ≤ 0x7FFF) {m : Mbc}
    (hm : s.cart.mbc.control a.toNat v = m) :
    s.memWrite a v = .ok { s with cart := { s.cart with mbc := m } } := by
  rw [State.memWrite, if_pos h, Cart.control, hm]

section
variable (a : Nat) (v : Byte)

/-- MBC1's registers after a store at `a` (20_memory.md R91 to R94). -/
theorem Mbc.control_mbc1 (en : Bool) (b₁ : BitVec 5) (b₂ : BitVec 2) (md : Bool) :
    Mbc.control (.mbc1 en b₁ b₂ md) a v = .mbc1
      (if a < 0x2000 then ramEnableOf v else en)
      (if 0x2000 ≤ a ∧ a < 0x4000 then remapZeroBank (v.setWidth 5) else b₁)
      (if 0x4000 ≤ a ∧ a < 0x6000 then v.setWidth 2 else b₂)
      (if 0x6000 ≤ a then v.getLsbD 0 else md) := by
  rw [Mbc.control]
  split
  · rw [if_neg (by omega), if_neg (by omega), if_neg (by omega)]
  split
  · rw [if_pos (by omega), if_neg (by omega), if_neg (by omega)]
  split
  · rw [if_neg (by omega), if_pos (by omega), if_neg (by omega)]
  · rw [if_neg (by omega), if_neg (by omega), if_pos (by omega)]

/-- MBC2's registers after a store at `a` (20_memory.md R101). -/
theorem Mbc.control_mbc2 (en : Bool) (b : BitVec 4) :
    Mbc.control (.mbc2 en b) a v = .mbc2
      (if a < 0x2000 then ramEnableOf v else en)
      (if 0x2000 ≤ a ∧ a < 0x4000 then remapZeroBank (v.setWidth 4) else b) := by
  rw [Mbc.control]
  split
  · rw [if_neg (by omega)]
  split
  · rw [if_pos (by omega)]
  · rw [if_neg (by omega)]

/-- MBC3's registers after a store at `a` (20_memory.md R111). -/
theorem Mbc.control_mbc3 (en : Bool) (b : BitVec 7) (sel : Byte) :
    Mbc.control (.mbc3 en b sel) a v = .mbc3
      (if a < 0x2000 then ramEnableOf v else en)
      (if 0x2000 ≤ a ∧ a < 0x4000 then remapZeroBank (v.setWidth 7) else b)
      (if 0x4000 ≤ a ∧ a < 0x6000 then v else sel) := by
  rw [Mbc.control]
  split
  · rw [if_neg (by omega), if_neg (by omega)]
  split
  · rw [if_pos (by omega), if_neg (by omega)]
  split
  · rw [if_neg (by omega), if_pos (by omega)]
  · rw [if_neg (by omega), if_neg (by omega)]

/-- MBC5's registers after a store at `a` (20_memory.md R116). -/
theorem Mbc.control_mbc5 (en : Bool) (b : BitVec 9) (r : BitVec 4) :
    Mbc.control (.mbc5 en b r) a v = .mbc5
      (if a < 0x2000 then ramEnableOf v else en)
      (if 0x2000 ≤ a ∧ a < 0x3000 then b.extractLsb' 8 1 ++ v
        else if 0x3000 ≤ a ∧ a < 0x4000 then v.extractLsb' 0 1 ++ b.extractLsb' 0 8 else b)
      (if 0x4000 ≤ a ∧ a < 0x6000 then v.setWidth 4 else r) := by
  rw [Mbc.control]
  split
  · rw [if_neg (by omega), if_neg (by omega), if_neg (by omega)]
  split
  · rw [if_pos (by omega), if_neg (by omega)]
  split
  · rw [if_neg (by omega), if_pos (by omega), if_neg (by omega)]
  split
  · rw [if_neg (by omega), if_neg (by omega), if_pos (by omega)]
  · rw [if_neg (by omega), if_neg (by omega), if_neg (by omega)]

end

/-- Settles O20, controller by controller. -/
theorem bankControl : Obligations.BankControl := by
  intro s a v ha
  refine ⟨fun hm => ?_, fun en b₁ b₂ md hm => ?_, fun en b hm => ?_, fun en b sel hm => ?_,
    fun en b r hm => ?_⟩
  · rw [s.memWrite_rom v ha (m := s.cart.mbc) (by rw [hm, Mbc.control])]
  · refine ⟨_, _, _, _, s.memWrite_rom v ha (by rw [hm, Mbc.control_mbc1]), ?_, ?_, ?_, ?_⟩
    · rw [ramEnableOf_eq]
    · rw [apply_ite BitVec.toNat, remapZeroBank_toNat, BitVec.toNat_setWidth]
    · rw [apply_ite BitVec.toNat, BitVec.toNat_setWidth]
    · rw [bit0_eq]
  · refine ⟨_, _, s.memWrite_rom v ha (by rw [hm, Mbc.control_mbc2]), ?_, ?_⟩
    · rw [ramEnableOf_eq]
    · rw [apply_ite BitVec.toNat, remapZeroBank_toNat, BitVec.toNat_setWidth]
  · refine ⟨_, _, _, s.memWrite_rom v ha (by rw [hm, Mbc.control_mbc3]), ?_, ?_, rfl⟩
    · rw [ramEnableOf_eq]
    · rw [apply_ite BitVec.toNat, remapZeroBank_toNat, BitVec.toNat_setWidth]
  · refine ⟨_, _, _, s.memWrite_rom v ha (by rw [hm, Mbc.control_mbc5]), ?_, ?_, ?_⟩
    · rw [ramEnableOf_eq]
    · rw [apply_ite BitVec.toNat, apply_ite BitVec.toNat, mbc5_lowBank, mbc5_highBank]
    · rw [apply_ite BitVec.toNat, BitVec.toNat_setWidth]

/-! ## ROM -/

theorem State.memRead_overlay (s : State) {a : Word} (hb : s.io.bootEnabled = true) (ha : a.toNat ≤ 0x00FF) :
    s.memRead a = .ok (s.params.bootImage.read a.toNat) := by
  rw [State.memRead, if_pos (by rw [hb, decide_eq_true ha]; rfl)]

theorem State.memRead_rom (s : State) {a : Word} (hb : s.io.bootEnabled = false ∨ 0x00FF < a.toNat)
    (ha : a.toNat ≤ 0x7FFF) : s.memRead a = .ok (s.cart.romRead a.toNat) := by
  have hover : ¬(s.io.bootEnabled && decide (a.toNat ≤ 0x00FF)) = true := by
    obtain hb | hb := hb
    · rw [hb, Bool.false_and]
      exact Bool.false_ne_true
    · exact s.not_overlay hb
  rw [State.memRead, if_neg hover, if_pos ha]

theorem Cart.romRead_low (c : Cart) {a : Nat} (h : c.mbc = .romOnly ∨ a < 0x4000) : c.romRead a = c.romByte a := by
  have hbank : c.romBankByte 0 a = c.romByte a := by rw [Cart.romBankByte, Nat.zero_mod, Nat.zero_mul, Nat.zero_add]
  unfold Cart.romRead
  split
  · rfl
  · next hm =>
    exact (if_pos (h.resolve_left hm)).trans hbank

theorem Cart.romRead_high (c : Cart) {a : Nat} (hm : c.mbc ≠ .romOnly) (h : 0x4000 ≤ a) :
    c.romRead a = c.romBankByte c.windowBank (a - 0x4000) := by
  unfold Cart.romRead
  split
  · contradiction
  · exact if_neg (Nat.not_lt.mpr h)

/-- Settles O21: the overlay, bank 0 and the controller's bank. -/
theorem romReads : Obligations.RomReads := by
  intro s a ha romAt bank
  refine ⟨fun v => ⟨_, rfl, rfl⟩, fun hb ho => s.memRead_overlay hb ho, fun hb => ⟨fun h => ?_, fun h => ?_⟩⟩
  · rw [s.memRead_rom hb ha, s.cart.romRead_low h]
    rfl
  · have hread : s.cart.mbc ≠ .romOnly → s.memRead a = .ok (bank s.cart.windowBank) := fun hm => by
      rw [s.memRead_rom hb ha, s.cart.romRead_high hm h]
      rfl
    refine ⟨fun en b₁ b₂ md hm => ?_, fun en b hm => ?_, fun en b sel hm => ?_, fun en b r hm => ?_⟩
    · rw [hread (by rw [hm]; exact nofun), Cart.windowBank, hm, Nat.mul_comm]
    · rw [hread (by rw [hm]; exact nofun), Cart.windowBank, hm]
    · rw [hread (by rw [hm]; exact nofun), Cart.windowBank, hm]
    · rw [hread (by rw [hm]; exact nofun), Cart.windowBank, hm]
      simp only [Bool.and_eq_true, beq_iff_eq, ← BitVec.toNat_inj]
      rfl

/-! ## External RAM -/

theorem State.memWrite_inside (s : State) {a : Word} (v : Byte) (h : inCartRam a = true) :
    s.memWrite a v = s.cartRamWrite a.toNat v := by
  obtain ⟨h1, h2⟩ := (inCartRam_iff a).mp h
  rw [State.memWrite, if_neg (by omega), if_neg (by omega), if_pos h2]

theorem State.memRead_cartRam {s : State} {a : Word} {w : Byte} (h : inCartRam a = true)
    (hr : s.cart.ramRead a.toNat = .ok w) : s.memRead a = .ok w := by
  rw [State.memRead_inside h, hr]
  rfl

theorem State.memWrite_cartRam {s : State} {a : Word} {v : Byte} {d : Cart} (h : inCartRam a = true)
    (hw : s.cart.ramWrite a.toNat v = .ok d) : s.memWrite a v = .ok { s with cart := d } := by
  rw [s.memWrite_inside v h, State.cartRamWrite, hw]
  rfl

/-- An access where no RAM is enabled, or beyond the buffer, reads 0xFF and stores nothing. -/
theorem State.cartRam_absent {s : State} {a : Word} (v : Byte) (h : inCartRam a = true)
    (hb : s.cart.mbc.ramBank = .ok none ∨ ∃ rb, s.cart.mbc.ramBank = .ok (some rb)
      ∧ s.cart.mbc.hasRam4 = false ∧ s.cart.ramIndex rb a.toNat = none) :
    s.memRead a = .ok 0xFF ∧ s.memWrite a v = .ok s := by
  obtain hb | ⟨rb, hb, h4, hi⟩ := hb
  · exact ⟨State.memRead_cartRam h (by rw [Cart.ramRead, hb]; rfl),
      State.memWrite_cartRam h (by rw [Cart.ramWrite, hb])⟩
  · exact ⟨State.memRead_cartRam h (by rw [Cart.ramRead, hb]; simp only [h4, hi]; rfl),
      State.memWrite_cartRam h (by rw [Cart.ramWrite, hb]; simp only [h4, hi]; rfl)⟩

/-- An access to byte `i` of the RAM buffer. -/
theorem State.cartRam_present {s : State} {a : Word} (v : Byte) {rb i : Nat} (h : inCartRam a = true)
    (hb : s.cart.mbc.ramBank = .ok (some rb)) (h4 : s.cart.mbc.hasRam4 = false)
    (hi : s.cart.ramIndex rb a.toNat = some i) :
    s.memRead a = .ok (s.cart.ram.read i)
      ∧ s.memWrite a v = .ok { s with cart := { s.cart with ram := s.cart.ram.write i v } } :=
  ⟨State.memRead_cartRam h (by rw [Cart.ramRead, hb]; simp only [h4, hi]; rfl),
    State.memWrite_cartRam h (by rw [Cart.ramWrite, hb]; simp only [h4, hi]; rfl)⟩

/-- An access to MBC2's built-in RAM. -/
theorem State.cartRam4_present {s : State} {a : Word} (v : Byte) {rb : Nat} (h : inCartRam a = true)
    (hb : s.cart.mbc.ramBank = .ok (some rb)) (h4 : s.cart.mbc.hasRam4 = true) :
    s.memRead a = .ok (0xF0 ||| (s.cart.ram4.get (ram4Index a.toNat)).setWidth 8)
      ∧ s.memWrite a v = .ok { s with cart :=
        { s.cart with ram4 := s.cart.ram4.set (ram4Index a.toNat) (v.setWidth 4) } } :=
  ⟨State.memRead_cartRam h (by rw [Cart.ramRead, hb]; simp only [h4, if_true]),
    State.memWrite_cartRam h (by rw [Cart.ramWrite, hb]; simp only [h4, if_true])⟩

/-- The bank an access to external RAM uses, by controller: enabled or not, and which (20_memory.md R86, R97,
R112, R118). -/
theorem Mbc.ramBank_eq {m : Mbc} {en : Bool} {rb : Nat}
    (h : (m = .romOnly ∧ en = true ∧ rb = 0)
      ∨ (∃ b₁ b₂ md, m = .mbc1 en b₁ b₂ md ∧ rb = if md then b₂.toNat else 0)
      ∨ (∃ b sel, m = .mbc3 en b sel ∧ rb = sel.toNat ∧ (en = true → sel.toNat ≤ 3))
      ∨ (∃ b r, m = .mbc5 en b r ∧ rb = r.toNat)) :
    m.ramBank = .ok (if en then some rb else none) ∧ m.hasRam4 = false := by
  obtain ⟨rfl, rfl, rfl⟩ | ⟨b₁, b₂, md, rfl, rfl⟩ | ⟨b, sel, rfl, rfl, hsel⟩ | ⟨b, r, rfl, rfl⟩ := h
  · exact ⟨rfl, rfl⟩
  · exact ⟨rfl, rfl⟩
  · cases en with
    | false => exact ⟨rfl, rfl⟩
    | true => exact ⟨if_pos (hsel rfl), rfl⟩
  · exact ⟨rfl, rfl⟩

theorem Cart.ramIndex_eq (c : Cart) (rb a : Nat) :
    c.ramIndex rb a = if c.ramBankCount ≠ 0 ∧ rb % c.ramBankCount * 0x2000 + (a - 0xA000) < c.ramSize
      then some (rb % c.ramBankCount * 0x2000 + (a - 0xA000)) else none := by
  unfold Cart.ramIndex
  by_cases h : c.ramBankCount = 0
  · rw [if_pos h, if_neg fun hc => hc.1 h]
  · rw [if_neg h]
    simp only [ne_eq, h, not_false_eq_true, true_and]
    rfl

/-- Settles O22: the buffer of the banked controllers, and MBC2's own RAM. -/
theorem cartridgeRam : Obligations.CartridgeRam := by
  intro s a v h
  refine ⟨fun en rb hc => ?_, fun en b hm => ?_⟩
  · obtain ⟨hbank, h4⟩ := Mbc.ramBank_eq hc
    have hidx := s.cart.ramIndex_eq rb a.toNat
    intro i
    split
    · next hp =>
      obtain ⟨hen, hpresent⟩ := hp
      rw [if_pos hen] at hbank
      rw [if_pos hpresent] at hidx
      obtain ⟨hread, hwrite⟩ := State.cartRam_present v h hbank h4 hidx
      exact ⟨hread, _, hwrite, rfl, Memory.read_write_same .., fun j hj => Memory.read_write_other _ _ hj⟩
    · next hp =>
      refine State.cartRam_absent v h ?_
      cases en with
      | false => exact .inl hbank
      | true => exact .inr ⟨rb, hbank, h4, by rw [hidx, if_neg fun hc => hp ⟨rfl, hc⟩]⟩
  · have hbank : s.cart.mbc.ramBank = .ok (if en then some 0 else none) := by rw [hm, Mbc.ramBank]
    have h4 : s.cart.mbc.hasRam4 = true := by rw [hm, Mbc.hasRam4]
    intro i
    split
    · next hen =>
      rw [if_pos hen] at hbank
      obtain ⟨hread, hwrite⟩ := State.cartRam4_present v h hbank h4
      exact ⟨hread, _, hwrite, rfl, Cells.get_set_same .., fun j hj => Cells.get_set_other _ _ hj⟩
    · next hen =>
      rw [if_neg hen] at hbank
      exact State.cartRam_absent v h (.inl hbank)

end Sys2Proof.Machine
end

section
/-! The PPU's clock: its steps add up, where each mode ends, and the frame (60_exceptions.md R401 to R403, R409,
R410). -/

namespace Sys2Proof.Machine

/-! ## The clock and the loop -/

/-- `modeclock <- modeclock + n`. -/
def State.addClock (s : State) (n : Nat) : State :=
  { s with ppu := { s.ppu with modeclock := s.ppu.modeclock + n } }

/-- The loop of R402, run until the clock is inside a mode. -/
def State.settle (s : State) : State := State.ppuLoop s.ppu.modeclock s

theorem State.addClock_addClock (s : State) (m n : Nat) : (s.addClock m).addClock n = s.addClock (m + n) := by
  rw [State.addClock, State.addClock, State.addClock, ← Nat.add_assoc]

theorem State.ppuStep_off {s : State} (h : s.ppu.lcdOn = false) (n : Nat) : s.ppuStep n = s :=
  if_neg (ne_true_of_eq_false h)

theorem State.ppuStep_on {s : State} (h : s.ppu.lcdOn = true) (n : Nat) : s.ppuStep n = (s.addClock n).settle :=
  if_pos h

theorem State.ppuStep_lcdOn (s : State) (n : Nat) : (s.ppuStep n).ppu.lcdOn = s.ppu.lcdOn :=
  (congrArg Ppu.lcdOn (s.ppuStep_deviceFrame n).ppu :)

/-- Inside a mode the loop does nothing. -/
theorem State.ppuLoop_of_lt {s : State} (h : s.ppu.modeclock < s.ppu.mode.length) (n : Nat) :
    State.ppuLoop n s = s := by
  cases n with
  | zero => rfl
  | succ n => exact if_neg (Nat.not_le.mpr h)

theorem State.settle_of_lt {s : State} (h : s.ppu.modeclock < s.ppu.mode.length) : s.settle = s :=
  State.ppuLoop_of_lt h _

theorem State.settle_of_le {s : State} (h : s.ppu.mode.length ≤ s.ppu.modeclock) :
    s.settle = (s.takeClock s.ppu.mode.length).endMode.settle := by
  have hpos := s.ppu.mode.length_pos
  obtain ⟨n, hn⟩ : ∃ n, s.ppu.modeclock = n + 1 := ⟨s.ppu.modeclock - 1, by omega⟩
  have hclock : (s.takeClock s.ppu.mode.length).endMode.ppu.modeclock = s.ppu.modeclock - s.ppu.mode.length :=
    State.endMode_modeclock _
  rw [State.settle, hn, State.ppuLoop, if_pos h, State.ppuLoop_fuel n _ (by omega), State.settle]

/-! ## The clock is apart from the rest -/

theorem State.drawColumns_addClock (s : State) (k ly n : Nat) (f : Cells 2) :
    (s.addClock k).drawColumns ly n f = s.drawColumns ly n f := by
  induction n with
  | zero => rfl
  | succ n ih =>
    rw [State.drawColumns, ih]
    rfl

theorem State.statInterrupt_addClock (s : State) (n i : Nat) :
    (s.addClock n).statInterrupt i = (s.statInterrupt i).addClock n := by
  show (if s.ppu.statEnables.getLsbD i then (s.raise 1).addClock n else s.addClock n) = _
  unfold State.statInterrupt
  split <;> rfl

theorem State.enterVBlank_addClock (s : State) (n : Nat) :
    (s.addClock n).enterVBlank = s.enterVBlank.addClock n :=
  State.statInterrupt_addClock { (s.enterMode .vBlank).raise 0 with
    ppu := { s.ppu with mode := .vBlank, frameReady := true } } n 4

theorem State.enterOamScan_addClock (s : State) (n : Nat) :
    ((s.addClock n).enterMode .oamScan).statInterrupt 5 = ((s.enterMode .oamScan).statInterrupt 5).addClock n :=
  State.statInterrupt_addClock (s.enterMode .oamScan) n 5

theorem State.setLy_addClock (s : State) (n : Nat) (v : Byte) :
    (s.addClock n).setLy v = (s.setLy v).addClock n := by
  have hstat := State.statInterrupt_addClock
    { s with ppu := { s.ppu with ly := v, coincidence := v == s.ppu.lyc } } n 6
  unfold State.setLy
  show (if v == s.ppu.lyc then _ else _) = State.addClock (if v == s.ppu.lyc then _ else _) n
  split
  · exact hstat
  · rfl

/-- The end of a mode does not depend on the clock. -/
theorem State.endMode_addClock (s : State) (n : Nat) : (s.addClock n).endMode = s.endMode.addClock n := by
  have hmode : (s.addClock n).ppu.mode = s.ppu.mode := rfl
  have hly : (s.addClock n).ppu.ly = s.ppu.ly := rfl
  unfold State.endMode
  rw [hmode, hly]
  split
  · rfl
  · rw [← State.statInterrupt_addClock, State.renderLine, State.drawColumns_addClock]
    rfl
  · simp only [State.setLy_addClock, State.enterVBlank_addClock, State.enterOamScan_addClock]
    exact (apply_ite (State.addClock · n) ..).symm
  · rw [State.setLy_addClock, State.setLy_addClock, State.enterOamScan_addClock]
    exact (apply_ite (State.addClock · n) ..).symm

theorem State.settle_addClock (s : State) (n : Nat) : (s.settle.addClock n).settle = (s.addClock n).settle := by
  induction hc : s.ppu.modeclock using Nat.strongRecOn generalizing s with
  | ind c ih =>
    subst hc
    obtain hlt | hle := Nat.lt_or_ge s.ppu.modeclock s.ppu.mode.length
    · rw [State.settle_of_lt hlt]
    · have hpos := s.ppu.mode.length_pos
      have hclock : (s.takeClock s.ppu.mode.length).endMode.ppu.modeclock
          = s.ppu.modeclock - s.ppu.mode.length := State.endMode_modeclock _
      have htake : (s.addClock n).takeClock s.ppu.mode.length = (s.takeClock s.ppu.mode.length).addClock n := by
        rw [State.addClock, State.takeClock, State.takeClock, State.addClock, Nat.sub_add_comm hle]
      have hend : (s.addClock n).settle = ((s.addClock n).takeClock s.ppu.mode.length).endMode.settle :=
        State.settle_of_le (Nat.le_add_right_of_le hle)
      rw [hend, htake, State.endMode_addClock, State.settle_of_le hle, ih _ (by omega) _ rfl]

theorem State.ppuStep_ppuStep (s : State) (m n : Nat) : (s.ppuStep m).ppuStep n = s.ppuStep (m + n) := by
  cases hon : s.ppu.lcdOn with
  | false => rw [State.ppuStep_off hon, State.ppuStep_off hon, State.ppuStep_off hon]
  | true =>
    rw [State.ppuStep_on ((s.ppuStep_lcdOn m).trans hon), State.ppuStep_on hon, State.ppuStep_on hon,
      State.settle_addClock, State.addClock_addClock]

/-- Settles O53: only the sum of the clock and the counts matters to the loop. -/
theorem ppuStepsAdd : Obligations.PpuStepsAdd := State.ppuStep_ppuStep

end Sys2Proof.Machine
end

section
/-! The end of each PPU mode, and the frame (60_exceptions.md R401 to R403, R410). -/

namespace Sys2Proof.Machine

/-! ## A step inside a mode, and to its end -/

theorem State.ppuStep_within {s : State} {n : Nat} (hon : s.ppu.lcdOn = true)
    (h : s.ppu.modeclock + n < s.ppu.mode.length) : s.ppuStep n = s.addClock n := by
  rw [State.ppuStep_on hon]
  exact State.settle_of_lt h

/-- The step that ends the mode is its end, with the clock at 0. -/
theorem State.ppuStep_end {s : State} (hon : s.ppu.lcdOn = true) (h : s.ppu.modeclock < s.ppu.mode.length) :
    s.ppuStep (s.ppu.mode.length - s.ppu.modeclock) = (s.takeClock s.ppu.modeclock).endMode := by
  have hclock : (s.takeClock s.ppu.modeclock).endMode.ppu.modeclock = 0 :=
    (State.endMode_modeclock _).trans (Nat.sub_self _)
  have hpos := (s.takeClock s.ppu.modeclock).endMode.ppu.mode.length_pos
  have hreach : s.ppu.modeclock + (s.ppu.mode.length - s.ppu.modeclock) = s.ppu.mode.length := by omega
  have htake : (s.addClock (s.ppu.mode.length - s.ppu.modeclock)).takeClock s.ppu.mode.length
      = s.takeClock s.ppu.modeclock := by
    rw [State.takeClock, State.addClock, State.takeClock, hreach, Nat.sub_self, Nat.sub_self]
  have hsettle : (s.addClock (s.ppu.mode.length - s.ppu.modeclock)).settle
      = ((s.addClock (s.ppu.mode.length - s.ppu.modeclock)).takeClock s.ppu.mode.length).endMode.settle :=
    State.settle_of_le (Nat.le_of_eq hreach.symm)
  rw [State.ppuStep_on hon, hsettle, htake, State.settle_of_lt (by omega)]

/-! ## The end of a mode -/

/-- The line after the current one: line 153 is the last (60_exceptions.md R402). -/
def State.nextLine (s : State) : Byte := if s.ppu.mode = .vBlank ∧ s.ppu.ly = 153 then 0 else s.ppu.ly + 1

theorem State.nextLine_of_hBlank {s : State} (hm : s.ppu.mode = .hBlank) : s.nextLine = s.ppu.ly + 1 := by
  rw [State.nextLine, hm, if_neg fun h => nomatch h.1]

theorem State.nextLine_last {s : State} (hm : s.ppu.mode = .vBlank) (hl : s.ppu.ly = 153) : s.nextLine = 0 :=
  if_pos ⟨hm, hl⟩

theorem State.nextLine_of_ne {s : State} (hl : s.ppu.ly ≠ 153) : s.nextLine = s.ppu.ly + 1 :=
  if_neg fun h => hl h.2

/-- The mode that follows the current one (60_exceptions.md R401). -/
def State.nextMode (s : State) : PpuMode :=
  match s.ppu.mode with
  | .oamScan => .pixelTransfer
  | .pixelTransfer => .hBlank
  | .hBlank => if s.nextLine = 144 then .vBlank else .oamScan
  | .vBlank => if s.ppu.ly = 153 then .oamScan else .vBlank

/-- The PPU at the end of each mode, register by register. -/
theorem State.endMode_registers (s : State) : s.endMode.ppu = { s.ppu with
    mode := s.nextMode
    ly := if s.ppu.mode = .hBlank ∨ s.ppu.mode = .vBlank then s.nextLine else s.ppu.ly
    coincidence := if s.ppu.mode = .hBlank ∨ s.ppu.mode = .vBlank then decide (s.nextLine = s.ppu.lyc)
      else s.ppu.coincidence
    frameReady := if s.ppu.mode = .hBlank ∧ s.nextLine = 144 then true else s.ppu.frameReady
    frame := if s.ppu.mode = .pixelTransfer then (s.renderLine s.ppu.ly.toNat).ppu.frame
      else s.ppu.frame } := by
  have hbeq : ∀ v w : Byte, (v == w) = decide (v = w) := fun _ _ => rfl
  rw [State.endMode_ppu, State.nextMode]
  cases hm : s.ppu.mode with
  | oamScan => simp
  | pixelTransfer => simp [State.renderLine]
  | hBlank =>
    rw [State.nextLine_of_hBlank hm]
    by_cases hl : s.ppu.ly + 1 = 144
    · simp only [hbeq, if_pos hl, true_and, reduceCtorEq, if_true, if_false, or_false]
    · simp only [hbeq, if_neg hl, true_and, reduceCtorEq, if_true, if_false, or_false]
  | vBlank =>
    by_cases hl : s.ppu.ly = 153
    · simp only [hbeq, if_pos hl, State.nextLine_last hm hl, reduceCtorEq, if_true, if_false, false_or, false_and]
    · simp only [hbeq, if_neg hl, State.nextLine_of_ne hl, hm, reduceCtorEq, if_true, if_false, false_or,
        false_and]

/-! ## The interrupts at the end of a mode -/

/-- IF with the VBlank bit and the STAT bit set where they are raised. -/
def Io.raised (io : Io) (vblank stat : Bool) : Io :=
  { io with ifl := io.ifl ||| (if vblank then 0x01 else 0x00) ||| (if stat then 0x02 else 0x00) }

/-- Raising twice is raising what either raises. -/
theorem Io.raised_raised (io : Io) (p q p' q' : Bool) :
    (io.raised p q).raised p' q' = io.raised (p || p') (q || q') := by
  have hor : ∀ (x : Byte) (b b' : Bool),
      (if b then x else 0x00) ||| (if b' then x else 0x00) = if b || b' then x else 0x00 := by
    decide
  have hifl : ∀ x a b a' b' : Byte, x ||| a ||| b ||| a' ||| b' = x ||| (a ||| a') ||| (b ||| b') := by
    intros
    ac_rfl
  simp only [Io.raised, hifl, hor]

theorem Io.raised_none (io : Io) : io.raised false false = io := by
  have hifl : ∀ x : Byte, x ||| 0x00 ||| 0x00 = x := by decide
  simp only [Io.raised, Bool.false_eq_true, if_false, hifl]

theorem State.statInterrupt_io (s : State) (i : Nat) :
    (s.statInterrupt i).io = s.io.raised false (s.ppu.statEnables.getLsbD i) := by
  have hifl : ∀ x : Byte, x ||| 0x00 ||| 0x02 = x ||| (1#8 <<< 1) := by decide
  unfold State.statInterrupt
  cases s.ppu.statEnables.getLsbD i with
  | false => exact (Io.raised_none _).symm
  | true => exact congrArg (fun f => { s.io with ifl := f }) (hifl s.io.ifl).symm

theorem State.setLy_io (s : State) (v : Byte) :
    (s.setLy v).io = s.io.raised false (v == s.ppu.lyc && s.ppu.statEnables.getLsbD 6) := by
  unfold State.setLy
  cases v == s.ppu.lyc with
  | false => exact (Io.raised_none _).symm
  | true => exact State.statInterrupt_io _ 6

theorem State.enterVBlank_io (s : State) :
    s.enterVBlank.io = s.io.raised true (s.ppu.statEnables.getLsbD 4) := by
  have hifl : ∀ x : Byte, x ||| 0x01 ||| 0x00 = x ||| (1#8 <<< 0) := by decide
  have hraise : (s.raise 0).io = s.io.raised true false :=
    congrArg (fun f => { s.io with ifl := f }) (hifl s.io.ifl).symm
  have hstat : s.enterVBlank.io = (s.raise 0).io.raised false (s.ppu.statEnables.getLsbD 4) :=
    State.statInterrupt_io _ 4
  rw [hstat, hraise, Io.raised_raised, Bool.true_or, Bool.false_or]

/-- HBlank ends in VBlank where the next line is 144, and in the next line's OAM scan otherwise. -/
theorem State.endMode_hBlank {s : State} (hm : s.ppu.mode = .hBlank) :
    s.endMode = if s.nextLine = 144 then (s.setLy s.nextLine).enterVBlank
      else ((s.setLy s.nextLine).enterMode .oamScan).statInterrupt 5 := by
  have hly : (s.setLy (s.ppu.ly + 1)).ppu.ly = s.ppu.ly + 1 := by rw [State.setLy_ppu]
  unfold State.endMode
  simp only [hm, State.nextLine_of_hBlank hm, hly]

/-- A VBlank line ends in the next, and line 153 in the OAM scan of line 0. -/
theorem State.endMode_vBlank {s : State} (hm : s.ppu.mode = .vBlank) :
    s.endMode = if s.ppu.ly = 153 then ((s.setLy s.nextLine).enterMode .oamScan).statInterrupt 5
      else s.setLy s.nextLine := by
  unfold State.endMode
  simp only [hm]
  split
  · next hl => rw [State.nextLine_last hm hl]
  · next hl => rw [State.nextLine_of_ne hl]

/-- A new line that begins an OAM scan. -/
theorem State.enterOamScan_io (s : State) (v : Byte) :
    (((s.setLy v).enterMode .oamScan).statInterrupt 5).io = s.io.raised false
      ((v == s.ppu.lyc && s.ppu.statEnables.getLsbD 6) || s.ppu.statEnables.getLsbD 5) := by
  have hen : (s.setLy v).ppu.statEnables = s.ppu.statEnables := by rw [State.setLy_ppu]
  have hscan : (((s.setLy v).enterMode .oamScan).statInterrupt 5).io
      = (s.setLy v).io.raised false ((s.setLy v).ppu.statEnables.getLsbD 5) := State.statInterrupt_io _ 5
  rw [hscan, hen, State.setLy_io, Io.raised_raised, Bool.false_or]

theorem State.enterVBlank_setLy_io (s : State) (v : Byte) :
    (s.setLy v).enterVBlank.io = s.io.raised true
      ((v == s.ppu.lyc && s.ppu.statEnables.getLsbD 6) || s.ppu.statEnables.getLsbD 4) := by
  rw [State.enterVBlank_io, State.setLy_ppu, State.setLy_io, Io.raised_raised, Bool.false_or]

/-- A STAT source is raised at the end of the mode: the comparison with LYC on a new line, and the one of the
mode that begins (60_exceptions.md R402, R403). -/
def State.raisesStat (s : State) : Bool :=
  match s.ppu.mode with
  | .oamScan => false
  | .pixelTransfer => s.ppu.statEnables.getLsbD 3
  | .hBlank => (s.nextLine == s.ppu.lyc && s.ppu.statEnables.getLsbD 6)
      || if s.nextLine = 144 then s.ppu.statEnables.getLsbD 4 else s.ppu.statEnables.getLsbD 5
  | .vBlank => (s.nextLine == s.ppu.lyc && s.ppu.statEnables.getLsbD 6)
      || (decide (s.ppu.ly = 153) && s.ppu.statEnables.getLsbD 5)

/-- The interrupts at the end of each mode. -/
theorem State.endMode_io (s : State) :
    s.endMode.io = s.io.raised (decide (s.ppu.mode = .hBlank ∧ s.nextLine = 144)) s.raisesStat := by
  unfold State.raisesStat
  cases hm : s.ppu.mode with
  | oamScan =>
    rw [State.endMode, hm]
    exact (Io.raised_none _).symm
  | pixelTransfer =>
    rw [State.endMode, hm]
    exact State.statInterrupt_io _ 3
  | hBlank =>
    rw [State.endMode_hBlank hm]
    by_cases hl : s.nextLine = 144
    · simp only [if_pos hl, State.enterVBlank_setLy_io, true_and, decide_eq_true hl]
    · simp only [if_neg hl, State.enterOamScan_io, true_and, decide_eq_false hl]
  | vBlank =>
    rw [State.endMode_vBlank hm]
    by_cases hl : s.ppu.ly = 153
    · simp only [if_pos hl, State.enterOamScan_io, reduceCtorEq, false_and, decide_false, decide_eq_true hl,
        Bool.true_and]
    · simp only [if_neg hl, State.setLy_io, reduceCtorEq, false_and, decide_false, decide_eq_false hl,
        Bool.false_and, Bool.or_false]

/-- The STAT sources by what they compare: the line, and the mode that ends or begins. -/
theorem State.raisesStat_iff (s : State) : s.raisesStat = true ↔
    ((s.ppu.mode = .hBlank ∨ s.ppu.mode = .vBlank) ∧ s.nextLine = s.ppu.lyc
        ∧ s.ppu.statEnables.getLsbD 6 = true)
      ∨ (s.ppu.mode = .pixelTransfer ∧ s.ppu.statEnables.getLsbD 3 = true)
      ∨ ((s.ppu.mode = .hBlank ∧ s.nextLine = 144) ∧ s.ppu.statEnables.getLsbD 4 = true)
      ∨ (s.nextMode = .oamScan ∧ s.ppu.statEnables.getLsbD 5 = true) := by
  unfold State.raisesStat State.nextMode
  cases hm : s.ppu.mode with
  | oamScan => simp
  | pixelTransfer => simp
  | hBlank => by_cases hl : s.nextLine = 144#8 <;> simp [hl]
  | vBlank => by_cases hl : s.ppu.ly = 153#8 <;> simp [hl]

theorem Io.raised_eq (io : Io) {p q : Bool} {vblank stat : Prop} [Decidable vblank] [Decidable stat]
    (hp : p = true ↔ vblank) (hq : q = true ↔ stat) : io.raised p q = { io with ifl :=
      io.ifl ||| (if vblank then 0x01 else 0x00) ||| (if stat then 0x02 else 0x00) } := by
  simp only [Io.raised, hp, hq]

/-- The line rendered at the end of PixelTransfer does not depend on the clock. -/
theorem State.renderLine_takeClock (s : State) (ly : Nat) :
    ((s.takeClock s.ppu.modeclock).renderLine ly).ppu.frame = (s.renderLine ly).ppu.frame := by
  have hadd : (s.takeClock s.ppu.modeclock).addClock s.ppu.modeclock = s := by
    rw [State.addClock, State.takeClock, Nat.sub_add_cancel (Nat.le_refl _)]
  have hdraw := (s.takeClock s.ppu.modeclock).drawColumns_addClock s.ppu.modeclock ly Config.screenWidth
    s.ppu.frame
  rw [hadd] at hdraw
  exact hdraw.symm

/-- Settles O54: inside a mode the clock alone moves; at its end the registers and IF are `endMode`'s. -/
theorem modeTransitions : Obligations.ModeTransitions := by
  intro s hon hlt
  refine ⟨fun n hn => State.ppuStep_within hon hn, ?_⟩
  intro t next newLine toVBlank stat
  have ht : t = (s.takeClock s.ppu.modeclock).endMode := State.ppuStep_end hon hlt
  have hppu := (s.takeClock s.ppu.modeclock).endMode_registers
  have hio := (s.takeClock s.ppu.modeclock).endMode_io
  have hdev := (s.takeClock s.ppu.modeclock).endMode_deviceFrame
  have hclock := (s.takeClock s.ppu.modeclock).endMode_modeclock
  have htimer := (s.takeClock s.ppu.modeclock).endMode_timer
  rw [← ht] at hppu hio hdev hclock htimer
  have hmode : t.ppu.mode = (s.takeClock s.ppu.modeclock).nextMode := congrArg Ppu.mode hppu
  refine ⟨?_, hclock.trans (Nat.sub_self _), hmode, congrArg Ppu.ly hppu, congrArg Ppu.coincidence hppu,
    congrArg Ppu.frameReady hppu, ?_, hdev.ppu, ?_, hdev.cpu, hdev.mem, hdev.cart, htimer, hdev.params,
    hdev.fault⟩
  · cases s.ppu.mode <;> rfl
  · rw [← s.renderLine_takeClock]
    exact congrArg Ppu.frame hppu
  · refine hio.trans (Io.raised_eq _ decide_eq_true_iff ?_)
    show _ ↔ _ ∨ _ ∨ _ ∨ t.ppu.mode = .oamScan ∧ _
    rw [hmode]
    exact State.raisesStat_iff _

end Sys2Proof.Machine
end

section
/-! One frame of the PPU, mode by mode and line by line (60_exceptions.md R410, R401). -/

namespace Sys2Proof.Machine

/-- The PPU runs, at the start of mode `m` of line `l`. -/
structure State.At (s : State) (m : PpuMode) (l : Nat) : Prop where
  on : s.ppu.lcdOn = true
  mode : s.ppu.mode = m
  clock : s.ppu.modeclock = 0
  line : s.ppu.ly.toNat = l

/-- In `n` cycles the PPU comes to the start of mode `m` of line `l`, with no VBlank interrupt raised on the
way. -/
structure State.Passes (s : State) (n : Nat) (m : PpuMode) (l : Nat) : Prop where
  reaches : (s.ppuStep n).At m l
  quiet : ∀ k, k ≤ n → (s.ppuStep k).io.ifl.getLsbD 0 = s.io.ifl.getLsbD 0
  ready : s.ppu.frameReady = true → (s.ppuStep n).ppu.frameReady = true

theorem State.Passes.trans {s : State} {n n' : Nat} {m m' : PpuMode} {l l' : Nat} (h : s.Passes n m l)
    (h' : (s.ppuStep n).Passes n' m' l') : s.Passes (n + n') m' l' where
  reaches := s.ppuStep_ppuStep n n' ▸ h'.reaches
  quiet k hk := by
    obtain hle | hle := Nat.le_total k n
    · exact h.quiet k hle
    · obtain ⟨d, rfl⟩ := Nat.exists_eq_add_of_le hle
      rw [← s.ppuStep_ppuStep n d, h'.quiet d (by omega), h.quiet n (Nat.le_refl n)]
  ready hr := s.ppuStep_ppuStep n n' ▸ h'.ready (h.ready hr)

/-! ## One mode -/

theorem State.At.within {s : State} {m : PpuMode} {l n : Nat} (h : s.At m l) (hn : n < m.length) :
    s.ppuStep n = s.addClock n := by
  obtain ⟨hon, rfl, hclock, -⟩ := h
  exact State.ppuStep_within hon (by omega)

theorem State.At.ends {s : State} {m : PpuMode} {l : Nat} (h : s.At m l) : s.ppuStep m.length = s.endMode := by
  obtain ⟨hon, rfl, hclock, -⟩ := h
  have hpos := s.ppu.mode.length_pos
  have hend := State.ppuStep_end hon (by omega)
  rw [hclock] at hend
  exact hend

theorem Io.raised_vblank (io : Io) (p q : Bool) : (io.raised p q).ifl.getLsbD 0 = (io.ifl.getLsbD 0 || p) := by
  cases p <;> cases q <;> simp [Io.raised]

/-- A mode that does not end in VBlank passes quietly. -/
theorem State.At.passes {s : State} {m m' : PpuMode} {l l' : Nat} (h : s.At m l)
    (hv : ¬(s.ppu.mode = .hBlank ∧ s.nextLine = 144)) (hmode : s.nextMode = m')
    (hline : (if s.ppu.mode = .hBlank ∨ s.ppu.mode = .vBlank then s.nextLine else s.ppu.ly).toNat = l') :
    s.Passes m.length m' l' where
  reaches := by
    have hppu := s.endMode_registers
    rw [h.ends]
    exact ⟨(congrArg Ppu.lcdOn hppu).trans h.on, (congrArg Ppu.mode hppu).trans hmode,
      s.endMode_modeclock.trans h.clock, (congrArg (·.ly.toNat) hppu).trans hline⟩
  quiet k hk := by
    obtain hlt | rfl := Nat.lt_or_eq_of_le hk
    · rw [h.within hlt]
      rfl
    · rw [h.ends, State.endMode_io, decide_eq_false hv, Io.raised_vblank, Bool.or_false]
  ready hr := by
    have hppu := congrArg Ppu.frameReady s.endMode_registers
    rw [h.ends, hppu]
    exact (if_neg hv).trans hr

theorem State.At.oamScan_passes {s : State} {l : Nat} (h : s.At .oamScan l) :
    s.Passes 80 .pixelTransfer l := by
  refine h.passes ?_ ?_ ?_
  · simp [h.mode]
  · rw [State.nextMode, h.mode]
  · simp [h.mode, h.line]

theorem State.At.pixelTransfer_passes {s : State} {l : Nat} (h : s.At .pixelTransfer l) :
    s.Passes 172 .hBlank l := by
  refine h.passes ?_ ?_ ?_
  · simp [h.mode]
  · rw [State.nextMode, h.mode]
  · simp [h.mode, h.line]

/-- The next line's number, before line 153. -/
theorem State.At.nextLine {s : State} {m : PpuMode} {l : Nat} (h : s.At m l) (hl : l < 153) :
    s.nextLine.toNat = l + 1 := by
  have hly := h.line
  have hne : s.ppu.ly ≠ 153 := fun hc => by
    rw [hc] at hly
    exact absurd hly (show ¬153 = l by omega)
  rw [State.nextLine_of_ne hne, ly_succ (by omega), hly]

theorem State.At.hBlank_passes {s : State} {l : Nat} (h : s.At .hBlank l) (hl : l < 143) :
    s.Passes 204 .oamScan (l + 1) := by
  have hnext := h.nextLine (by omega)
  have hne : s.nextLine ≠ 144 := fun hc => by
    rw [hc] at hnext
    exact absurd hnext (show ¬144 = l + 1 by omega)
  refine h.passes (fun hc => hne hc.2) ?_ ?_
  · rw [State.nextMode, h.mode]
    exact if_neg hne
  · rw [if_pos (.inl h.mode), hnext]

theorem State.At.vBlank_passes {s : State} {l : Nat} (h : s.At .vBlank l) (hl : l < 153) :
    s.Passes 456 .vBlank (l + 1) := by
  have hly := h.line
  have hne : s.ppu.ly ≠ 153 := fun hc => by
    rw [hc] at hly
    exact absurd hly (show ¬153 = l by omega)
  refine h.passes ?_ ?_ ?_
  · simp [h.mode]
  · rw [State.nextMode, h.mode]
    exact if_neg hne
  · rw [if_pos (.inr h.mode), h.nextLine hl]

theorem State.At.lastLine_passes {s : State} (h : s.At .vBlank 153) : s.Passes 456 .oamScan 0 := by
  have hly : s.ppu.ly = 153 := BitVec.eq_of_toNat_eq h.line
  refine h.passes ?_ ?_ ?_
  · simp [h.mode]
  · rw [State.nextMode, h.mode]
    exact if_pos hly
  · rw [if_pos (.inr h.mode), State.nextLine_last h.mode hly]
    rfl

/-! ## Lines -/

/-- A line down to its HBlank. -/
theorem State.At.toHBlank {s : State} {l : Nat} (h : s.At .oamScan l) : s.Passes 252 .hBlank l :=
  have hscan := h.oamScan_passes
  hscan.trans hscan.reaches.pixelTransfer_passes

theorem State.At.line_passes {s : State} {l : Nat} (h : s.At .oamScan l) (hl : l < 143) :
    s.Passes 456 .oamScan (l + 1) :=
  have hvisible := h.toHBlank
  hvisible.trans (hvisible.reaches.hBlank_passes hl)

theorem State.At.passes_zero {s : State} {m : PpuMode} {l : Nat} (h : s.At m l) : s.Passes 0 m l := by
  have hzero : s.ppuStep 0 = s := h.within (by have := m.length_pos; omega)
  refine ⟨hzero.symm ▸ h, fun k hk => ?_, fun hr => hzero.symm ▸ hr⟩
  rw [Nat.le_zero.mp hk, hzero]

/-- The visible lines from line 0 on. -/
theorem State.At.visibleLines {s : State} (h : s.At .oamScan 0) {l : Nat} (hl : l ≤ 143) :
    s.Passes (456 * l) .oamScan l := by
  induction l with
  | zero => exact h.passes_zero
  | succ l ih =>
    have hpast := ih (by omega)
    exact hpast.trans (hpast.reaches.line_passes (by omega))

/-- The lines of VBlank from line 144 on. -/
theorem State.At.vBlankLines {s : State} (h : s.At .vBlank 144) {d : Nat} (hd : d ≤ 9) :
    s.Passes (456 * d) .vBlank (144 + d) := by
  induction d with
  | zero => exact h.passes_zero
  | succ d ih =>
    have hpast := ih (by omega)
    exact hpast.trans (hpast.reaches.vBlank_passes (by omega))

/-- VBlank as a whole passes quietly. -/
theorem State.At.vBlank_frame {s : State} (h : s.At .vBlank 144) : s.Passes 4560 .oamScan 0 :=
  have hlast := h.vBlankLines (Nat.le_refl 9)
  hlast.trans hlast.reaches.lastLine_passes

/-- The lines before VBlank, down to the HBlank of line 143. -/
theorem State.At.beforeVBlank {s : State} (h : s.At .oamScan 0) : s.Passes 65460 .hBlank 143 :=
  have hlast := h.visibleLines (Nat.le_refl 143)
  hlast.trans hlast.reaches.toHBlank

/-- The HBlank of line 143 ends in VBlank, with its interrupt raised and the frame ready. -/
theorem State.At.enters_vBlank {s : State} (h : s.At .hBlank 143) :
    (s.ppuStep 204).At .vBlank 144 ∧ (s.ppuStep 204).io.ifl.getLsbD 0 = true
      ∧ (s.ppuStep 204).ppu.frameReady = true := by
  have hends : s.ppuStep 204 = s.endMode := h.ends
  have hnext : s.nextLine = 144 := BitVec.eq_of_toNat_eq (h.nextLine (by omega))
  have hppu := s.endMode_registers
  rw [hends]
  refine ⟨⟨(congrArg Ppu.lcdOn hppu).trans h.on, (congrArg Ppu.mode hppu).trans ?_,
    s.endMode_modeclock.trans h.clock, (congrArg (·.ly.toNat) hppu).trans ?_⟩, ?_,
    (congrArg Ppu.frameReady hppu).trans (if_pos ⟨h.mode, hnext⟩)⟩
  · show s.nextMode = .vBlank
    rw [State.nextMode, h.mode]
    exact if_pos hnext
  · show BitVec.toNat (if _ then _ else _) = 144
    rw [if_pos (.inl h.mode), hnext]
    rfl
  · rw [State.endMode_io, decide_eq_true ⟨h.mode, hnext⟩, Io.raised_vblank, Bool.or_true]

/-- Settles O55: 143 whole lines, line 143, whose HBlank ends in VBlank, and the ten lines of VBlank. -/
theorem frameReturns : Obligations.FrameReturns := by
  refine ⟨fun s hon hmode hclock hly => ?_, fun s hon hmode hclock hly n hn => ?_⟩
  · have hstart : s.At .oamScan 0 := ⟨hon, hmode, hclock, by rw [hly]; rfl⟩
    have hbefore := hstart.beforeVBlank
    obtain ⟨hvblank, hraised, hready⟩ := hbefore.reaches.enters_vBlank
    rw [State.ppuStep_ppuStep] at hvblank hraised hready
    have hframe := hvblank.vBlank_frame
    have hback := hframe.reaches
    have hstill := hframe.ready hready
    rw [State.ppuStep_ppuStep] at hback hstill
    refine ⟨⟨hback.mode, hback.clock, BitVec.eq_of_toNat_eq hback.line, hstill⟩, fun n hn => ?_,
      ⟨hvblank.mode, hvblank.clock, BitVec.eq_of_toNat_eq hvblank.line, hraised⟩⟩
    obtain hle | hle := Nat.le_total n 65460
    · exact hbefore.quiet n hle
    · obtain ⟨d, rfl⟩ := Nat.exists_eq_add_of_le hle
      rw [← State.ppuStep_ppuStep, hbefore.reaches.within (show d < 204 by omega)]
      exact hbefore.quiet 65460 (Nat.le_refl _)
  · exact (State.At.vBlank_frame ⟨hon, hmode, hclock, by rw [hly]; rfl⟩).quiet n hn

end Sys2Proof.Machine
end

section
/-! The reset state, the launch, the LCD switch and the host's operations (10_state.md R49,
70_reset_and_hazards.md R450 to R453, 60_exceptions.md R409, R441). -/

namespace Sys2Proof.Machine

/-! ## Reset -/

/-- Settles O11: the state's fields are the column's values. -/
theorem resetRegisters : Obligations.ResetRegisters := by
  unfold Obligations.ResetRegisters
  decide

theorem Ppu.reset_timed : Ppu.reset.Timed := ⟨by decide, by decide, by decide, by decide⟩

theorem Timer.reset_below : Timer.reset.Below := ⟨by decide, by decide⟩

/-- Settles O12: the registers and the empty memories meet each clause. -/
theorem resetMeetsInvariant : Obligations.ResetMeetsInvariant where
  flags := by decide
  haltOrBug := by decide
  haltNotScheduled := by decide
  delayOnly := by decide
  statBits := by decide
  ppu := Ppu.reset_timed
  timer := Timer.reset_below
  bank := rfl
  mem := rfl
  rom := rfl
  ram := rfl
  ram4 := rfl
  image := rfl
  frame := rfl

/-! ## Launch -/

theorem Ppu.bootRom_timed : Ppu.bootRom.Timed := ⟨by decide, by decide, by decide, by decide⟩

theorem Timer.bootRom_below : Timer.bootRom.Below := ⟨by decide, by decide⟩

/-- The table of controllers, by the number of the header's type. -/
theorem mbcOfType_eq (t : Byte) : mbcOfType t =
    if t.toNat ∈ [0x00, 0x08, 0x09] then some .romOnly
    else if t.toNat ∈ [0x01, 0x02, 0x03] then some (.mbc1 false 1 0 false)
    else if t.toNat ∈ [0x05, 0x06] then some (.mbc2 false 1)
    else if t.toNat ∈ [0x0F, 0x10, 0x11, 0x12, 0x13] then some (.mbc3 false 1 0)
    else if t.toNat ∈ [0x19, 0x1A, 0x1B, 0x1C, 0x1D, 0x1E] then some (.mbc5 false 1 0)
    else none := by
  simp only [mbcOfType, List.mem_cons, List.not_mem_nil, ← BitVec.toNat_inj]
  rfl

theorem mbcOfType_bankNonzero {t : Byte} {m : Mbc} (h : mbcOfType t = some m) : m.bankNonzero = true := by
  unfold mbcOfType at h
  split at h
  · cases h; rfl
  split at h
  · cases h; rfl
  split at h
  · cases h; rfl
  split at h
  · cases h; rfl
  split at h
  · cases h; rfl
  · cases h

/-- Data filtered by key reads as it was at the keys kept, and as unlisted elsewhere. -/
theorem Cells.get_filter_key {w : Nat} (l : Cells w) (q : Nat → Bool) (a : Nat) :
    Cells.get (l.filter fun e => q e.1) a = if q a then l.get a else Cells.unlisted w := by
  induction l with
  | nil => split <;> rfl
  | cons e rest ih =>
    obtain ⟨k, v⟩ := e
    rw [List.filter_cons]
    by_cases hk : k = a
    · subst hk
      cases hq : q k <;> simp [Cells.get, ih, hq]
    · cases hq : q k <;> simp [Cells.get, ih, hk]

/-- The flat array at power-on: the draw where it is of memory, 0 at the other addresses. -/
theorem PowerOn.array_read (p : PowerOn) (h : Memory.wf p.mem = true) (a : Nat) :
    Memory.read p.array a = if drawnAddress a then p.mem.read a else 0x00 := by
  have hfilter : Cells.wf (w := 8) (p.mem.filter fun e => drawnAddress e.1) = true := Cells.wf_filter _ h
  exact (Cells.get_ofWrites hfilter a).trans (Cells.get_filter_key p.mem drawnAddress a)

/-- From 0x8000 up, the draw leaves out the RAM window, the echo and the I/O page. -/
theorem drawnAddress_eq {a : Nat} (h1 : 0x8000 ≤ a) (h2 : a ≤ 0xFFFE) : drawnAddress a
    = !decide ((0xA000 ≤ a ∧ a ≤ 0xBFFF) ∨ (0xE000 ≤ a ∧ a ≤ 0xFDFF) ∨ (0xFF00 ≤ a ∧ a ≤ 0xFF7F)) := by
  rw [drawnAddress, Bool.eq_iff_iff]
  simp only [Bool.or_eq_true, Bool.not_eq_true', decide_eq_true_eq, decide_eq_false_iff_not]
  omega

theorem PowerOn.array_read_above (p : PowerOn) (h : Memory.wf p.mem = true) {a : Nat} (h1 : 0x8000 ≤ a)
    (h2 : a ≤ 0xFFFE) : Memory.read p.array a
      = if (0xA000 ≤ a ∧ a ≤ 0xBFFF) ∨ (0xE000 ≤ a ∧ a ≤ 0xFDFF) ∨ (0xFF00 ≤ a ∧ a ≤ 0xFF7F)
        then 0x00 else p.mem.read a := by
  rw [p.array_read h, drawnAddress_eq h1 h2]
  simp only [Bool.not_eq_true', decide_eq_false_iff_not, ite_not]

/-- A machine that has just been launched: the CPU at rest, the devices where they can be, and the launch's
cartridge and memory. -/
theorem Launch.inv (p : Launch) {m : Mbc} (hm : mbcOfType p.mbcType = some m) (image : Memory) {s : State}
    (hs : s = { s with cart := p.cart m, mem := p.powerOn.array, params := p.params image })
    (hf : s.cpu.f &&& 0x0F = 0) (hhalt : s.cpu.halted = false) (hime : s.cpu.imeScheduled = false)
    (hppu : s.ppu.Timed) (hstat : s.ppu.statEnables = 0) (htimer : s.timer.Below) (hframe : s.ppu.frame = []) :
    s.Inv where
  flags := hf
  haltOrBug h := Bool.false_ne_true (hhalt.symm.trans h.1)
  haltNotScheduled _ := hime
  delayOnly _ := hime
  statBits := by rw [hstat]; rfl
  ppu := hppu
  timer := htimer
  bank := by rw [hs]; exact mbcOfType_bankNonzero hm
  mem := by rw [hs]; exact Cells.wf_ofWrites _
  rom := by rw [hs]; exact Cells.wf_ofWrites _
  ram := by rw [hs]; exact Cells.wf_ofWrites _
  ram4 := by rw [hs]; exact Cells.wf_ofWrites _
  image := by rw [hs]; exact Cells.wf_ofWrites _
  frame := by rw [hframe]; rfl

/-- Settles O59: the two columns of R49, on the cartridge the type selects. -/
theorem launchBuildsMachine : Obligations.LaunchBuildsMachine := by
  intro p type table
  have htable : table = mbcOfType p.mbcType := (mbcOfType_eq p.mbcType).symm
  rw [htable]
  refine ⟨fun h => by rw [State.launch, h], fun m hm => ?_⟩
  have hmask : ∀ f : Byte, f &&& 0xF0 &&& 0x0F = 0 := by decide
  have hlaunch := State.launch.eq_def p
  rw [hm] at hlaunch
  cases hb : p.bootMode with
  | postBoot =>
    rw [hb] at hlaunch
    refine ⟨_, hlaunch, p.inv hm [] rfl (hmask 0xB0) rfl rfl Ppu.reset_timed rfl Timer.reset_below rfl, rfl, rfl,
      rfl, rfl, rfl, rfl, rfl, rfl, rfl, rfl, rfl, rfl, fun h => Cells.get_ofWrites h,
      fun h => Cells.get_ofWrites h, fun h => Cells.get_ofWrites h, fun h a => p.powerOn.array_read_above h,
      rfl, rfl, rfl, fun _ => ⟨rfl, rfl, rfl, rfl⟩, fun _ h => nomatch h⟩
  | bootRom image =>
    rw [hb] at hlaunch
    refine ⟨_, hlaunch, p.inv hm image rfl (hmask _) rfl rfl Ppu.bootRom_timed rfl Timer.bootRom_below rfl, rfl,
      rfl, rfl, rfl, rfl, rfl, rfl, rfl, rfl, rfl, rfl, rfl, fun h => Cells.get_ofWrites h,
      fun h => Cells.get_ofWrites h, fun h => Cells.get_ofWrites h, fun h a => p.powerOn.array_read_above h,
      rfl, rfl, rfl, (fun h => nomatch h), fun _ h => ?_⟩
    cases h
    exact ⟨rfl, rfl, rfl, rfl, rfl, rfl, rfl, rfl, rfl, rfl, rfl, rfl, rfl, rfl, rfl,
      fun h => Cells.get_ofWrites h⟩

/-! ## The LCD switch -/

theorem Ppu.writeLcdc_same {p : Ppu} {v : Byte} (h : p.lcdOn = v.getLsbD 7) :
    p.writeLcdc v = { p with lcdc := v } := by
  rw [Ppu.writeLcdc, h, if_pos (beq_self_eq_true _)]

theorem Ppu.writeLcdc_off {p : Ppu} {v : Byte} (hp : p.lcdOn = true) (hv : v.getLsbD 7 = false) :
    p.writeLcdc v = { p with lcdc := v, mode := .hBlank, ly := 0, modeclock := 0 } := by
  rw [Ppu.writeLcdc, hp, hv]
  rfl

theorem Ppu.writeLcdc_on {p : Ppu} {v : Byte} (hp : p.lcdOn = false) (hv : v.getLsbD 7 = true) :
    p.writeLcdc v = { p with lcdc := v, mode := .oamScan, ly := 0, modeclock := 0 } := by
  rw [Ppu.writeLcdc, hp, hv]
  rfl

/-- With the LCD off STAT reads mode 0 (60_exceptions.md R407, R409). -/
theorem Ppu.readStat_off {p : Ppu} (h : p.lcdOn = false) : p.readStat.toNat % 4 = 0 := by
  have hbits : ∀ (e : Byte) (c : Bool),
      (0x80 ||| (e &&& 0x78) ||| (if c then 0x04 else 0x00) ||| 0 : Byte).toNat % 4 = 0 := by decide
  rw [Ppu.readStat, h]
  exact hbits _ _

/-- Settles O57, by bit 7 before the store and after it. -/
theorem lcdSwitch : Obligations.LcdSwitch := by
  intro s v
  have hlcdc : (s.ppu.writeLcdc v).lcdOn = v.getLsbD 7 := by rw [Ppu.lcdOn, Ppu.writeLcdc_lcdc]
  refine ⟨{ s with ppu := s.ppu.writeLcdc v }, rfl, rfl, Ppu.writeLcdc_same, Ppu.writeLcdc_off,
    Ppu.writeLcdc_on, fun hv => State.ppuStep_off (hlcdc.trans hv), fun hv => ⟨(s.ppu.writeLcdc v).readStat, ?_, ?_⟩⟩
  · exact State.memRead_io _ (by decide) (by decide)
  · exact Ppu.readStat_off (hlcdc.trans hv)

/-! ## The host -/

/-- What the host changes between steps is in no clause of the invariant. -/
theorem State.Inv.host {s : State} (h : s.Inv) (io : Io) (ready : Bool) :
    ({ s with io := io, ppu := { s.ppu with frameReady := ready } } : State).Inv where
  flags := h.flags
  haltOrBug := h.haltOrBug
  haltNotScheduled := h.haltNotScheduled
  delayOnly := h.delayOnly
  statBits := h.statBits
  ppu := ⟨h.ppu.clock, h.ppu.line, h.ppu.vBlank, h.ppu.frozen⟩
  timer := h.timer
  bank := h.bank
  mem := h.mem
  rom := h.rom
  ram := h.ram
  ram4 := h.ram4
  image := h.image
  frame := h.frame

theorem State.hostIterate_next {s t : State} (h : step s = .next t) : s.hostIterate = t := by
  rw [State.hostIterate, h]

/-- Settles O58: the host's operations touch IF, the joypad and `frame_ready` only. -/
theorem hostOperations : Obligations.HostOperations := by
  intro s j row column
  refine ⟨rfl, rfl, rfl, rfl, fun h => ⟨h.host s.io false, h.host _ s.ppu.frameReady,
    h.host _ s.ppu.frameReady⟩, fun u hu => ?_⟩
  rw [State.hostIterate_next hu]
  exact ⟨rfl, fun h => stepKeepsInvariant s u h hu⟩

end Sys2Proof.Machine
end
